-- ==== Sys2Proof/Word.lean ====
section
/-! DEFINITION. The value types of the decoder block: the 32-bit instruction word (00_scope.md R6,
10_state.md R22), register indices, host bytes and ASCII text. -/

namespace Sys2Proof

/-- The instruction word `w`: 32 bits, bit 31 the most significant (00_scope.md R6, 10_state.md R22). -/
abbrev Word := BitVec 32

/-- A byte: of the text port `text_o` (41_dispatch_render.md R104), or of a host's memory (20_memory.md R26). -/
abbrev Byte := BitVec 8

/-- A register index, "a 5-bit unsigned value (0–31)" (10_state.md R14). -/
abbrev RegIdx := BitVec 5

/-- A text: its ASCII characters, the first one first (00_scope.md R8, 41_dispatch_render.md R80). -/
abbrev Text := List Char

end Sys2Proof
end

