-- ==== Sys2Proof/Machine/Extract.lean ====
section
/-! DEFINITION. The bit-field extractor, the first of the block's three parts (40_field_extract.md): the ten named
accessors of a word, each a plain bit slice but for `imm_se`, and the two further slices the other parts take
(`copz`, 41_dispatch_render.md R69; the cofun, 30_encoding.md R39). Every accessor is total: none looks at the
opcode (R50). -/

namespace Sys2Proof.Extract

/-- R51: `function(w) = w[31:26]`. -/
def function (w : Word) : BitVec 6 := w.extractLsb' 26 6

/-- R52: `cop_opcode(w) = w[25:21]`, the same bits as `s`. -/
def cop_opcode (w : Word) : BitVec 5 := w.extractLsb' 21 5

/-- R53: `s(w) = w[25:21]`. -/
def s (w : Word) : RegIdx := w.extractLsb' 21 5

/-- R54: `t(w) = w[20:16]`. -/
def t (w : Word) : RegIdx := w.extractLsb' 16 5

/-- R55: `d(w) = w[15:11]`. -/
def d (w : Word) : RegIdx := w.extractLsb' 11 5

/-- R56: `shift(w) = w[10:6]`. -/
def shift (w : Word) : BitVec 5 := w.extractLsb' 6 5

/-- R57: `subfunction(w) = w[5:0]`. -/
def subfunction (w : Word) : BitVec 6 := w.extractLsb' 0 6

/-- R58: `imm(w) = w[15:0]`. -/
def imm (w : Word) : BitVec 16 := w.extractLsb' 0 16

/-- `sext_32` of a 16-bit value (00_scope.md R7; 30_encoding.md R42): the one arithmetic of the extractor. -/
def sext (v : BitVec 16) : BitVec 32 := v.signExtend 32

/-- R59: `imm_se(w) = sext_32(w[15:0])`. -/
def imm_se (w : Word) : BitVec 32 := sext (imm w)

/-- R61: `imm_jump(w) = w[25:0]`, not shifted here. -/
def imm_jump (w : Word) : BitVec 26 := w.extractLsb' 0 26

/-- 41_dispatch_render.md R69: `copz = w[27:26]`, for every word. -/
def copz (w : Word) : BitVec 2 := w.extractLsb' 26 2

/-- 30_encoding.md R39, decision D24: the cofun `w[24:0]`, computed inside the renderer `F_COFUN`; it is not an
eleventh field output. -/
def cofun (w : Word) : BitVec 25 := w.extractLsb' 0 25

end Sys2Proof.Extract
end

