-- ==== Sys2Proof/Config.lean ====
section
/-! DEFINITION. The parameters of the block (00_scope.md R5) and the enumerated types of its result
(10_state.md R23, 41_dispatch_render.md R67, R68, R70, R72): the constructors are exactly the listed ones, so
the port codes that are never produced cannot be written (93_implementation_defined.md U6). The default decode
table is `mipsI` in Decode.lean. -/

namespace Sys2Proof

/-- `REG_NAMING`, an elaboration-time parameter of one instance (00_scope.md R5; decisions D10, D30). -/
inductive RegNaming where
  | NUMERIC
  | ABI
  deriving DecidableEq, Repr

/-- `HOST_BYTE_ORDER`, a parameter of the host that the spec leaves OPEN (20_memory.md R26, decision D19). No rule
of the block reads it: it is an argument of the host-side assembly in Decode.lean and of nothing else. -/
inductive HostByteOrder where
  | BIG
  | LITTLE
  deriving DecidableEq, Repr

/-- The default of `REG_NAMING` (00_scope.md R5). -/
def Config.regNamingDefault : RegNaming := .NUMERIC

/-- `TEXT_MAX`, the byte length of the text port (00_scope.md R5, decision D18). -/
def Config.textMax : Nat := 32

/-- `op`: which row matched, or `UNKNOWN` (10_state.md R23, 41_dispatch_render.md R67). One constructor per row of
spec/opcode_table.json, in file order; `brk` stands for the row `break`, a word Lean keeps for itself. -/
inductive Op where
  | UNKNOWN
  | sll | srl | sra | sllv | srlv | srav | jr | jalr
  | syscall | brk | mfhi | mthi | mflo | mtlo | mult | multu
  | div | divu | add | addu | sub | subu | and | or
  | xor | nor | slt | sltu | bltz | bgez | bltzal | bgezal
  | j | jal | beq | bne | blez | bgtz | addi | addiu
  | slti | sltiu | andi | ori | xori | lui | lb | lh
  | lwl | lw | lbu | lhu | lwr | sb | sh | swl
  | sw | swr | lwc0 | lwc1 | lwc2 | lwc3 | swc0 | swc1
  | swc2 | swc3 | mfc0 | mfc1 | mfc2 | mfc3 | cfc0 | cfc1
  | cfc2 | cfc3 | mtc0 | mtc1 | mtc2 | mtc3 | ctc0 | ctc1
  | ctc2 | ctc3 | bc0f | bc1f | bc2f | bc3f | bc0t | bc1t
  | bc2t | bc3t | tlbr | tlbwi | tlbwr | tlbp | rfe | cop1
  | cop2 | cop3
  deriving DecidableEq, Repr

/-- `shape_o`: the encoding shape (41_dispatch_render.md R68). -/
inductive Shape where
  | NONE
  | R
  | I
  | J
  | COP
  deriving DecidableEq, Repr

/-- `fmt_o`: the renderer the dispatch mux selects (41_dispatch_render.md R70). -/
inductive Fmt where
  | F_UNK | F_NONE | F_D_S_T | F_D_T_SH | F_D_T_S | F_S | F_D_S
  | F_D | F_S_T | F_T_S_IS | F_T_S_IU | F_T_IU | F_S_T_BR | F_S_BR
  | F_BR | F_JT | F_T_MEM | F_CT_MEM | F_T_CD | F_T_CC | F_COFUN
  deriving DecidableEq, Repr

/-- The operand kinds (41_dispatch_render.md R72). -/
inductive OperandKind where
  | NONE | GPR | CPR_D | CPR_C | SHAMT | IMM_S | IMM_U | BROFF | JTARGET | COFUN
  deriving DecidableEq, Repr

/-- An operand descriptor: a kind and a 32-bit value (10_state.md R23, 41_dispatch_render.md R71, R72). -/
structure Operand where
  kind  : OperandKind
  value : BitVec 32
  deriving DecidableEq, Repr

/-- A row of `TABLE` (00_scope.md R5): the columns match and mask of spec/opcode_table.json, and what a word of the
row gives (41_dispatch_render.md R65). The mnemonic of a row is that of its `op` (Machine/Text.lean). -/
structure Row where
  op        : Op
  matchBits : Word
  mask      : Word
  shape     : Shape
  fmt       : Fmt
  deriving DecidableEq, Repr

/-- A word belongs to a row when its examined bits are the row's (41_dispatch_render.md R65: `(w AND row.mask) =
row.match`). -/
def Row.covers (r : Row) (w : Word) : Bool := w &&& r.mask == r.matchBits

end Sys2Proof
end

