-- ==== Sys2Proof/Syntax.lean ====
section
/-! DEFINITION. The instructions the block recognises: one constructor per row of spec/opcode_table.json, its
arguments the fields the row's renderer shows, in the order of the row's operand list (41_dispatch_render.md R70,
R71). A signed immediate or displacement is carried as its 16-bit field; the meaning sign-extends it. The bits a
row neither examines nor shows (30_encoding.md R40) are no part of the instruction. -/

namespace Sys2Proof

/-- An instruction the block recognises. The widths of the fields are the bounds of 10_state.md R14 and R24, so an
out-of-range field cannot be written. -/
inductive Instr where
  -- the `function` = 0x00 family (42_special.md)
  | sll (d t : RegIdx) (shift : BitVec 5)
  | srl (d t : RegIdx) (shift : BitVec 5)
  | sra (d t : RegIdx) (shift : BitVec 5)
  | sllv (d t s : RegIdx)
  | srlv (d t s : RegIdx)
  | srav (d t s : RegIdx)
  | jr (s : RegIdx)
  | jalr (d s : RegIdx)
  | syscall
  | brk
  | mfhi (d : RegIdx)
  | mthi (s : RegIdx)
  | mflo (d : RegIdx)
  | mtlo (s : RegIdx)
  | mult (s t : RegIdx)
  | multu (s t : RegIdx)
  | div (s t : RegIdx)
  | divu (s t : RegIdx)
  | add (d s t : RegIdx)
  | addu (d s t : RegIdx)
  | sub (d s t : RegIdx)
  | subu (d s t : RegIdx)
  | and (d s t : RegIdx)
  | or (d s t : RegIdx)
  | xor (d s t : RegIdx)
  | nor (d s t : RegIdx)
  | slt (d s t : RegIdx)
  | sltu (d s t : RegIdx)
  -- branches and jumps (43_branch_jump.md)
  | bltz (s : RegIdx) (imm : BitVec 16)
  | bgez (s : RegIdx) (imm : BitVec 16)
  | bltzal (s : RegIdx) (imm : BitVec 16)
  | bgezal (s : RegIdx) (imm : BitVec 16)
  | j (imm_jump : BitVec 26)
  | jal (imm_jump : BitVec 26)
  | beq (s t : RegIdx) (imm : BitVec 16)
  | bne (s t : RegIdx) (imm : BitVec 16)
  | blez (s : RegIdx) (imm : BitVec 16)
  | bgtz (s : RegIdx) (imm : BitVec 16)
  -- immediate arithmetic and logic (44_immediate.md)
  | addi (t s : RegIdx) (imm : BitVec 16)
  | addiu (t s : RegIdx) (imm : BitVec 16)
  | slti (t s : RegIdx) (imm : BitVec 16)
  | sltiu (t s : RegIdx) (imm : BitVec 16)
  | andi (t s : RegIdx) (imm : BitVec 16)
  | ori (t s : RegIdx) (imm : BitVec 16)
  | xori (t s : RegIdx) (imm : BitVec 16)
  | lui (t : RegIdx) (imm : BitVec 16)
  -- loads and stores (45_load_store.md)
  | lb (t : RegIdx) (imm : BitVec 16) (s : RegIdx)
  | lh (t : RegIdx) (imm : BitVec 16) (s : RegIdx)
  | lwl (t : RegIdx) (imm : BitVec 16) (s : RegIdx)
  | lw (t : RegIdx) (imm : BitVec 16) (s : RegIdx)
  | lbu (t : RegIdx) (imm : BitVec 16) (s : RegIdx)
  | lhu (t : RegIdx) (imm : BitVec 16) (s : RegIdx)
  | lwr (t : RegIdx) (imm : BitVec 16) (s : RegIdx)
  | sb (t : RegIdx) (imm : BitVec 16) (s : RegIdx)
  | sh (t : RegIdx) (imm : BitVec 16) (s : RegIdx)
  | swl (t : RegIdx) (imm : BitVec 16) (s : RegIdx)
  | sw (t : RegIdx) (imm : BitVec 16) (s : RegIdx)
  | swr (t : RegIdx) (imm : BitVec 16) (s : RegIdx)
  | lwc0 (t : RegIdx) (imm : BitVec 16) (s : RegIdx)
  | lwc1 (t : RegIdx) (imm : BitVec 16) (s : RegIdx)
  | lwc2 (t : RegIdx) (imm : BitVec 16) (s : RegIdx)
  | lwc3 (t : RegIdx) (imm : BitVec 16) (s : RegIdx)
  | swc0 (t : RegIdx) (imm : BitVec 16) (s : RegIdx)
  | swc1 (t : RegIdx) (imm : BitVec 16) (s : RegIdx)
  | swc2 (t : RegIdx) (imm : BitVec 16) (s : RegIdx)
  | swc3 (t : RegIdx) (imm : BitVec 16) (s : RegIdx)
  -- coprocessor instructions (46_coprocessor.md)
  | mfc0 (t d : RegIdx)
  | mfc1 (t d : RegIdx)
  | mfc2 (t d : RegIdx)
  | mfc3 (t d : RegIdx)
  | cfc0 (t d : RegIdx)
  | cfc1 (t d : RegIdx)
  | cfc2 (t d : RegIdx)
  | cfc3 (t d : RegIdx)
  | mtc0 (t d : RegIdx)
  | mtc1 (t d : RegIdx)
  | mtc2 (t d : RegIdx)
  | mtc3 (t d : RegIdx)
  | ctc0 (t d : RegIdx)
  | ctc1 (t d : RegIdx)
  | ctc2 (t d : RegIdx)
  | ctc3 (t d : RegIdx)
  | bc0f (imm : BitVec 16)
  | bc1f (imm : BitVec 16)
  | bc2f (imm : BitVec 16)
  | bc3f (imm : BitVec 16)
  | bc0t (imm : BitVec 16)
  | bc1t (imm : BitVec 16)
  | bc2t (imm : BitVec 16)
  | bc3t (imm : BitVec 16)
  | tlbr
  | tlbwi
  | tlbwr
  | tlbp
  | rfe
  | cop1 (cofun : BitVec 25)
  | cop2 (cofun : BitVec 25)
  | cop3 (cofun : BitVec 25)
  deriving DecidableEq, Repr

end Sys2Proof
end

