-- ==== Sys2Proof/WellFormed.lean ====
section
/-! DEFINITION. The well-formedness checks: of an operand descriptor and an operand list (41_dispatch_render.md R71,
R72), of a row and of a decode table (30_encoding.md R40, R44, R46). An `Instr` needs no check: the widths of its
fields are the bounds of 10_state.md R14 and R24, so no ill-formed instruction can be written (R64,
93_implementation_defined.md U2). -/

namespace Sys2Proof

/-- R72: the range of the value each kind holds. The kind `NONE` is what a slot at or beyond the count shows (R71);
no listed descriptor has it. -/
def Operand.wellFormed (o : Operand) : Bool :=
  match o.kind with
  | .NONE    => false
  | .GPR     => o.value.toNat ≤ 31
  | .CPR_D   => o.value.toNat ≤ 31
  | .CPR_C   => o.value.toNat ≤ 31
  | .SHAMT   => o.value.toNat ≤ 31
  | .IMM_S   => o.value.toNat ≤ 0x7FFF || 0xFFFF8000 ≤ o.value.toNat
  | .IMM_U   => o.value.toNat ≤ 0xFFFF
  | .BROFF   => o.value.toNat ≤ 0x7FFF || 0xFFFF8000 ≤ o.value.toNat
  | .JTARGET => o.value.toNat ≤ 0x3FFFFFF
  | .COFUN   => o.value.toNat ≤ 0x1FFFFFF

/-- R71: an operand list has 0 to 3 descriptors, each well formed. -/
def operandsWellFormed (os : List Operand) : Bool :=
  os.length ≤ 3 && os.all Operand.wellFormed

/-- 30_encoding.md R40: the seven sets of examined bits: `function`; with `subfunction`; with `t`; with
`cop_opcode`; with `cop_opcode` and `t`; with `cop_opcode` and `subfunction`; with bit 25. -/
def examinedMasks : List Word :=
  [0xFC000000#32, 0xFC00003F#32, 0xFC1F0000#32, 0xFFE00000#32, 0xFFFF0000#32, 0xFFE0003F#32, 0xFE000000#32]

/-- 41_dispatch_render.md R68: the shape of a recognised word, by `function`. -/
def shapeOfFunction (f : BitVec 6) : Shape :=
  if f = 0x00#6 then .R
  else if f = 0x02#6 ∨ f = 0x03#6 then .J
  else if 0x10#6 ≤ f ∧ f ≤ 0x13#6 then .COP
  else .I

/-- A row of a table: its examined bits are one of the sets of R40, its match has no bit outside its mask, it names
an instruction and a renderer, and its shape is that of its `function` (R68). -/
def Row.wellFormed (r : Row) : Bool :=
  examinedMasks.contains r.mask && r.matchBits &&& r.mask == r.matchBits
    && r.op != .UNKNOWN && r.fmt != .F_UNK && r.shape == shapeOfFunction (Extract.function r.matchBits)

/-- No word matches both rows: they differ in a bit that both examine (30_encoding.md R44). -/
def Row.disjoint (a b : Row) : Bool := (a.matchBits ^^^ b.matchBits) &&& (a.mask &&& b.mask) != 0#32

/-- R44: the rows are pairwise disjoint. -/
def pairwiseDisjoint : List Row → Bool
  | [] => true
  | r :: rs => rs.all (Row.disjoint r) && pairwiseDisjoint rs

/-- Some row of the table covers the word. -/
def recognises (T : List Row) (w : Word) : Bool := T.any fun r => r.covers w

/-- The word with the given `function` and `subfunction`, every other bit 0. -/
def functionWord (f sf : Nat) : Word := BitVec.ofNat 32 (f * 2 ^ 26 + sf)

/-- The renderers of the register-register layout: their operands are among `d`, `s`, `t` and `shift`
(30_encoding.md R36, 41_dispatch_render.md R70). -/
def registerLayouts : List Fmt := [.F_NONE, .F_D_S_T, .F_D_T_SH, .F_D_T_S, .F_S, .F_D_S, .F_D, .F_S_T]

/-- The ALU operations of R46 (b), which use `d`, `s`, `t` (42_special.md R128 to R137). -/
def aluOps : List Op := [.add, .addu, .sub, .subu, .and, .or, .xor, .nor, .slt, .sltu]

/-- The shifts of R46 (b), which use `d`, `t`, `shift`: those that read the `shift` field (42_special.md R110 to R112;
notes/assumptions/14.md). -/
def shiftOps : List Op := [.sll, .srl, .sra]

/-- The variable shifts, whose amount is `s` in the decided table (42_special.md R113 to R115). -/
def variableShiftOps : List Op := [.sllv, .srlv, .srav]

/-- The coprocessor moves, which use `t`, `d` and coprocessor-register naming (46_coprocessor.md R176 to R191). -/
def moveOps : List Op :=
  [.mfc0, .mfc1, .mfc2, .mfc3, .cfc0, .cfc1, .cfc2, .cfc3, .mtc0, .mtc1, .mtc2, .mtc3, .ctc0, .ctc1, .ctc2, .ctc3]

/-- R46 (a): under `function` = 0 the row is decided by `subfunction`, and the layout is register-register. -/
def Table.specialBySubfunction (T : List Row) : Bool :=
  T.all fun r => Extract.function r.matchBits != 0x00#6
    || (r.mask == 0xFC00003F#32 && r.shape == .R && registerLayouts.contains r.fmt)

/-- R46 (b): an add instruction stands under `function` = 0; every ALU operation uses `d`, `s`, `t`, every shift `d`,
`t`, `shift`, the jump-register `s` only. The rows of the decided table that show one field otherwise may do so and no
more: a variable shift `d`, `t`, `s`, and `jalr` also `d` (notes/assumptions/14.md). -/
def Table.specialOperands (T : List Row) : Bool :=
  (T.any fun r => r.op == .add && Extract.function r.matchBits == 0x00#6)
    && T.all fun r =>
      (!aluOps.contains r.op || r.fmt == .F_D_S_T) && (!shiftOps.contains r.op || r.fmt == .F_D_T_SH)
        && (!variableShiftOps.contains r.op || r.fmt == .F_D_T_SH || r.fmt == .F_D_T_S)
        && (r.op != .jr || r.fmt == .F_S) && (r.op != .jalr || r.fmt == .F_S || r.fmt == .F_D_S)

/-- R46 (c): the word 0x00000000 is recognised, so `function` = 0 with `subfunction` = 0 is a row (by (a)). -/
def Table.zeroWord (T : List Row) : Bool := recognises T 0x00000000#32

/-- R46 (d): `function` = 0x0F, that of the word 0x3C010001, is a row, and it shows `t` and the unsigned `imm`. -/
def Table.immediateLoad (T : List Row) : Bool :=
  T.any fun r => r.covers 0x3C010001#32 && r.mask == 0xFC000000#32 && (r.fmt == .F_T_IU || r.fmt == .F_T_S_IU)

/-- The renderer uses `t`, `d` and coprocessor-register naming (41_dispatch_render.md R99, R100). -/
def Fmt.namesCoprocessorRegister (fmt : Fmt) : Bool := fmt == .F_T_CD || fmt == .F_T_CC

/-- The coprocessor rows of the decided table that show something else than `t` and `d`, by their form
(30_encoding.md R36): a branch form its displacement, a named operation nothing, a generic operation its cofun. -/
def Row.otherCoprocessorForm (r : Row) : Bool :=
  !moveOps.contains r.op
    && ((r.mask == 0xFFFF0000#32 && r.fmt == .F_BR) || (r.mask == 0xFFE0003F#32 && r.fmt == .F_NONE)
      || (r.mask == 0xFE000000#32 && r.fmt == .F_COFUN))

/-- R46 (e): there are coprocessor rows, and every one uses `t`, `d` and coprocessor-register naming, but for the
branch and operation forms (notes/assumptions/14.md); a row with the name of a move is a coprocessor row. -/
def Table.coprocessorMoves (T : List Row) : Bool :=
  (T.any fun r => r.shape == .COP && r.fmt.namesCoprocessorRegister)
    && T.all fun r => (r.shape != .COP || r.fmt.namesCoprocessorRegister || r.otherCoprocessorForm)
      && (!moveOps.contains r.op || r.shape == .COP)

/-- R46 (f): the unconditional jumps, by their shape or their name, use `imm_jump`. -/
def Table.jumps (T : List Row) : Bool :=
  T.all fun r => (r.shape != .J && r.op != .j && r.op != .jal) || r.fmt == .F_JT

/-- R46 (g): an invalid pattern in every branch of the dispatch: a `subfunction` under `function` = 0, a combination
of the selecting fields under a coprocessor `function`, an unassigned `function`. -/
def Table.invalidPatterns (T : List Row) : Bool :=
  ((List.range 64).any fun sf => !recognises T (functionWord 0 sf))
    && ((List.range 64).any fun sf => (List.range 32).any fun t =>
      (List.range 4).any fun z => (List.range 32).any fun co =>
      !recognises T (functionWord (0x10 + z) sf ||| BitVec.ofNat 32 (co * 2 ^ 21 + t * 2 ^ 16)))
    && (List.range 64).any fun f => T.all fun r => Extract.function r.matchBits != BitVec.ofNat 6 f

/-- What the source fixes of any `TABLE` (30_encoding.md R46 (a) to (g), (b) and (e) as the model reads them: DEDUCED,
notes/assumptions/14.md), with every row well formed and the rows pairwise disjoint (R44). R46 (h), that a word of no row gives
the unknown outcome, is what the decode function does with the table. -/
def Table.admissible (T : List Row) : Bool :=
  T.all Row.wellFormed && pairwiseDisjoint T && Table.specialBySubfunction T && Table.specialOperands T
    && Table.zeroWord T && Table.immediateLoad T && Table.coprocessorMoves T && Table.jumps T
    && Table.invalidPatterns T

/-- A value of the parameter `TABLE`: rows that meet R46 (00_scope.md R5: "the model may take `TABLE` as an argument
constrained by `30_encoding.md` rule R46"). -/
structure DecodeTable where
  rows : List Row
  admissible : Table.admissible rows = true

end Sys2Proof
end

