-- ==== Sys2Proof/Decode.lean ====
section
/-! DEFINITION. The decode table (spec/opcode_table.json, decision D1), the classifier (41_dispatch_render.md R65),
total on every word and rejecting by name the words of no row (47_unknown.md R208), and the reference encoder
(R108). -/

namespace Sys2Proof

open Extract

/-- `TABLE`: arm 1, the register-register rows (42_special.md). -/
def specialRows : List Row :=
  [ ⟨.sll, 0x00000000#32, 0xFC00003F#32, .R, .F_D_T_SH⟩,
    ⟨.srl, 0x00000002#32, 0xFC00003F#32, .R, .F_D_T_SH⟩,
    ⟨.sra, 0x00000003#32, 0xFC00003F#32, .R, .F_D_T_SH⟩,
    ⟨.sllv, 0x00000004#32, 0xFC00003F#32, .R, .F_D_T_S⟩,
    ⟨.srlv, 0x00000006#32, 0xFC00003F#32, .R, .F_D_T_S⟩,
    ⟨.srav, 0x00000007#32, 0xFC00003F#32, .R, .F_D_T_S⟩,
    ⟨.jr, 0x00000008#32, 0xFC00003F#32, .R, .F_S⟩,
    ⟨.jalr, 0x00000009#32, 0xFC00003F#32, .R, .F_D_S⟩,
    ⟨.syscall, 0x0000000C#32, 0xFC00003F#32, .R, .F_NONE⟩,
    ⟨.brk, 0x0000000D#32, 0xFC00003F#32, .R, .F_NONE⟩,
    ⟨.mfhi, 0x00000010#32, 0xFC00003F#32, .R, .F_D⟩,
    ⟨.mthi, 0x00000011#32, 0xFC00003F#32, .R, .F_S⟩,
    ⟨.mflo, 0x00000012#32, 0xFC00003F#32, .R, .F_D⟩,
    ⟨.mtlo, 0x00000013#32, 0xFC00003F#32, .R, .F_S⟩,
    ⟨.mult, 0x00000018#32, 0xFC00003F#32, .R, .F_S_T⟩,
    ⟨.multu, 0x00000019#32, 0xFC00003F#32, .R, .F_S_T⟩,
    ⟨.div, 0x0000001A#32, 0xFC00003F#32, .R, .F_S_T⟩,
    ⟨.divu, 0x0000001B#32, 0xFC00003F#32, .R, .F_S_T⟩,
    ⟨.add, 0x00000020#32, 0xFC00003F#32, .R, .F_D_S_T⟩,
    ⟨.addu, 0x00000021#32, 0xFC00003F#32, .R, .F_D_S_T⟩,
    ⟨.sub, 0x00000022#32, 0xFC00003F#32, .R, .F_D_S_T⟩,
    ⟨.subu, 0x00000023#32, 0xFC00003F#32, .R, .F_D_S_T⟩,
    ⟨.and, 0x00000024#32, 0xFC00003F#32, .R, .F_D_S_T⟩,
    ⟨.or, 0x00000025#32, 0xFC00003F#32, .R, .F_D_S_T⟩,
    ⟨.xor, 0x00000026#32, 0xFC00003F#32, .R, .F_D_S_T⟩,
    ⟨.nor, 0x00000027#32, 0xFC00003F#32, .R, .F_D_S_T⟩,
    ⟨.slt, 0x0000002A#32, 0xFC00003F#32, .R, .F_D_S_T⟩,
    ⟨.sltu, 0x0000002B#32, 0xFC00003F#32, .R, .F_D_S_T⟩ ]

/-- `TABLE`: the branches and jumps (43_branch_jump.md). -/
def branchJumpRows : List Row :=
  [ ⟨.bltz, 0x04000000#32, 0xFC1F0000#32, .I, .F_S_BR⟩,
    ⟨.bgez, 0x04010000#32, 0xFC1F0000#32, .I, .F_S_BR⟩,
    ⟨.bltzal, 0x04100000#32, 0xFC1F0000#32, .I, .F_S_BR⟩,
    ⟨.bgezal, 0x04110000#32, 0xFC1F0000#32, .I, .F_S_BR⟩,
    ⟨.j, 0x08000000#32, 0xFC000000#32, .J, .F_JT⟩,
    ⟨.jal, 0x0C000000#32, 0xFC000000#32, .J, .F_JT⟩,
    ⟨.beq, 0x10000000#32, 0xFC000000#32, .I, .F_S_T_BR⟩,
    ⟨.bne, 0x14000000#32, 0xFC000000#32, .I, .F_S_T_BR⟩,
    ⟨.blez, 0x18000000#32, 0xFC000000#32, .I, .F_S_BR⟩,
    ⟨.bgtz, 0x1C000000#32, 0xFC000000#32, .I, .F_S_BR⟩ ]

/-- `TABLE`: the immediate rows (44_immediate.md). -/
def immediateRows : List Row :=
  [ ⟨.addi, 0x20000000#32, 0xFC000000#32, .I, .F_T_S_IS⟩,
    ⟨.addiu, 0x24000000#32, 0xFC000000#32, .I, .F_T_S_IS⟩,
    ⟨.slti, 0x28000000#32, 0xFC000000#32, .I, .F_T_S_IS⟩,
    ⟨.sltiu, 0x2C000000#32, 0xFC000000#32, .I, .F_T_S_IS⟩,
    ⟨.andi, 0x30000000#32, 0xFC000000#32, .I, .F_T_S_IU⟩,
    ⟨.ori, 0x34000000#32, 0xFC000000#32, .I, .F_T_S_IU⟩,
    ⟨.xori, 0x38000000#32, 0xFC000000#32, .I, .F_T_S_IU⟩,
    ⟨.lui, 0x3C000000#32, 0xFC000000#32, .I, .F_T_IU⟩ ]

/-- `TABLE`: the loads and stores (45_load_store.md). -/
def loadStoreRows : List Row :=
  [ ⟨.lb, 0x80000000#32, 0xFC000000#32, .I, .F_T_MEM⟩,
    ⟨.lh, 0x84000000#32, 0xFC000000#32, .I, .F_T_MEM⟩,
    ⟨.lwl, 0x88000000#32, 0xFC000000#32, .I, .F_T_MEM⟩,
    ⟨.lw, 0x8C000000#32, 0xFC000000#32, .I, .F_T_MEM⟩,
    ⟨.lbu, 0x90000000#32, 0xFC000000#32, .I, .F_T_MEM⟩,
    ⟨.lhu, 0x94000000#32, 0xFC000000#32, .I, .F_T_MEM⟩,
    ⟨.lwr, 0x98000000#32, 0xFC000000#32, .I, .F_T_MEM⟩,
    ⟨.sb, 0xA0000000#32, 0xFC000000#32, .I, .F_T_MEM⟩,
    ⟨.sh, 0xA4000000#32, 0xFC000000#32, .I, .F_T_MEM⟩,
    ⟨.swl, 0xA8000000#32, 0xFC000000#32, .I, .F_T_MEM⟩,
    ⟨.sw, 0xAC000000#32, 0xFC000000#32, .I, .F_T_MEM⟩,
    ⟨.swr, 0xB8000000#32, 0xFC000000#32, .I, .F_T_MEM⟩,
    ⟨.lwc0, 0xC0000000#32, 0xFC000000#32, .I, .F_CT_MEM⟩,
    ⟨.lwc1, 0xC4000000#32, 0xFC000000#32, .I, .F_CT_MEM⟩,
    ⟨.lwc2, 0xC8000000#32, 0xFC000000#32, .I, .F_CT_MEM⟩,
    ⟨.lwc3, 0xCC000000#32, 0xFC000000#32, .I, .F_CT_MEM⟩,
    ⟨.swc0, 0xE0000000#32, 0xFC000000#32, .I, .F_CT_MEM⟩,
    ⟨.swc1, 0xE4000000#32, 0xFC000000#32, .I, .F_CT_MEM⟩,
    ⟨.swc2, 0xE8000000#32, 0xFC000000#32, .I, .F_CT_MEM⟩,
    ⟨.swc3, 0xEC000000#32, 0xFC000000#32, .I, .F_CT_MEM⟩ ]

/-- `TABLE`: arm 2, the coprocessor rows (46_coprocessor.md). -/
def coprocessorRows : List Row :=
  [ ⟨.mfc0, 0x40000000#32, 0xFFE00000#32, .COP, .F_T_CD⟩,
    ⟨.mfc1, 0x44000000#32, 0xFFE00000#32, .COP, .F_T_CD⟩,
    ⟨.mfc2, 0x48000000#32, 0xFFE00000#32, .COP, .F_T_CD⟩,
    ⟨.mfc3, 0x4C000000#32, 0xFFE00000#32, .COP, .F_T_CD⟩,
    ⟨.cfc0, 0x40400000#32, 0xFFE00000#32, .COP, .F_T_CC⟩,
    ⟨.cfc1, 0x44400000#32, 0xFFE00000#32, .COP, .F_T_CC⟩,
    ⟨.cfc2, 0x48400000#32, 0xFFE00000#32, .COP, .F_T_CC⟩,
    ⟨.cfc3, 0x4C400000#32, 0xFFE00000#32, .COP, .F_T_CC⟩,
    ⟨.mtc0, 0x40800000#32, 0xFFE00000#32, .COP, .F_T_CD⟩,
    ⟨.mtc1, 0x44800000#32, 0xFFE00000#32, .COP, .F_T_CD⟩,
    ⟨.mtc2, 0x48800000#32, 0xFFE00000#32, .COP, .F_T_CD⟩,
    ⟨.mtc3, 0x4C800000#32, 0xFFE00000#32, .COP, .F_T_CD⟩,
    ⟨.ctc0, 0x40C00000#32, 0xFFE00000#32, .COP, .F_T_CC⟩,
    ⟨.ctc1, 0x44C00000#32, 0xFFE00000#32, .COP, .F_T_CC⟩,
    ⟨.ctc2, 0x48C00000#32, 0xFFE00000#32, .COP, .F_T_CC⟩,
    ⟨.ctc3, 0x4CC00000#32, 0xFFE00000#32, .COP, .F_T_CC⟩,
    ⟨.bc0f, 0x41000000#32, 0xFFFF0000#32, .COP, .F_BR⟩,
    ⟨.bc1f, 0x45000000#32, 0xFFFF0000#32, .COP, .F_BR⟩,
    ⟨.bc2f, 0x49000000#32, 0xFFFF0000#32, .COP, .F_BR⟩,
    ⟨.bc3f, 0x4D000000#32, 0xFFFF0000#32, .COP, .F_BR⟩,
    ⟨.bc0t, 0x41010000#32, 0xFFFF0000#32, .COP, .F_BR⟩,
    ⟨.bc1t, 0x45010000#32, 0xFFFF0000#32, .COP, .F_BR⟩,
    ⟨.bc2t, 0x49010000#32, 0xFFFF0000#32, .COP, .F_BR⟩,
    ⟨.bc3t, 0x4D010000#32, 0xFFFF0000#32, .COP, .F_BR⟩,
    ⟨.tlbr, 0x42000001#32, 0xFFE0003F#32, .COP, .F_NONE⟩,
    ⟨.tlbwi, 0x42000002#32, 0xFFE0003F#32, .COP, .F_NONE⟩,
    ⟨.tlbwr, 0x42000006#32, 0xFFE0003F#32, .COP, .F_NONE⟩,
    ⟨.tlbp, 0x42000008#32, 0xFFE0003F#32, .COP, .F_NONE⟩,
    ⟨.rfe, 0x42000010#32, 0xFFE0003F#32, .COP, .F_NONE⟩,
    ⟨.cop1, 0x46000000#32, 0xFE000000#32, .COP, .F_COFUN⟩,
    ⟨.cop2, 0x4A000000#32, 0xFE000000#32, .COP, .F_COFUN⟩,
    ⟨.cop3, 0x4E000000#32, 0xFE000000#32, .COP, .F_COFUN⟩ ]

/-- The default of the parameter `TABLE`: the 98 rows of spec/opcode_table.json in file order (00_scope.md R5,
decision D1). -/
def mipsI : List Row :=
  specialRows ++ branchJumpRows ++ immediateRows ++ loadStoreRows ++ coprocessorRows

/-- The default value of `TABLE`: the 98 rows, which meet R46. -/
def mipsITable : DecodeTable := ⟨mipsI, by decide⟩

/-- What the classifier says of a word: the instruction of the row it matches, or that it matches none. The second
is an ordinary result that carries the word (47_unknown.md R209, R211). -/
inductive Classified where
  | row (i : Instr)
  | unknown (w : Word)
  deriving DecidableEq, Repr

/-- R65, arm 1: under `function` = 0x00 the row is that of `subfunction`. -/
def decodeSpecial (w : Word) : Classified :=
  match subfunction w with
  | 0x00#6 => .row (.sll (d w) (t w) (shift w))
  | 0x02#6 => .row (.srl (d w) (t w) (shift w))
  | 0x03#6 => .row (.sra (d w) (t w) (shift w))
  | 0x04#6 => .row (.sllv (d w) (t w) (s w))
  | 0x06#6 => .row (.srlv (d w) (t w) (s w))
  | 0x07#6 => .row (.srav (d w) (t w) (s w))
  | 0x08#6 => .row (.jr (s w))
  | 0x09#6 => .row (.jalr (d w) (s w))
  | 0x0C#6 => .row .syscall
  | 0x0D#6 => .row .brk
  | 0x10#6 => .row (.mfhi (d w))
  | 0x11#6 => .row (.mthi (s w))
  | 0x12#6 => .row (.mflo (d w))
  | 0x13#6 => .row (.mtlo (s w))
  | 0x18#6 => .row (.mult (s w) (t w))
  | 0x19#6 => .row (.multu (s w) (t w))
  | 0x1A#6 => .row (.div (s w) (t w))
  | 0x1B#6 => .row (.divu (s w) (t w))
  | 0x20#6 => .row (.add (d w) (s w) (t w))
  | 0x21#6 => .row (.addu (d w) (s w) (t w))
  | 0x22#6 => .row (.sub (d w) (s w) (t w))
  | 0x23#6 => .row (.subu (d w) (s w) (t w))
  | 0x24#6 => .row (.and (d w) (s w) (t w))
  | 0x25#6 => .row (.or (d w) (s w) (t w))
  | 0x26#6 => .row (.xor (d w) (s w) (t w))
  | 0x27#6 => .row (.nor (d w) (s w) (t w))
  | 0x2A#6 => .row (.slt (d w) (s w) (t w))
  | 0x2B#6 => .row (.sltu (d w) (s w) (t w))
  | _ => .unknown w

/-- R65, arm 3 under `function` = 0x01: the row is that of `t` (decision D3). -/
def decodeByT (w : Word) : Classified :=
  match t w with
  | 0x00#5 => .row (.bltz (s w) (imm w))
  | 0x01#5 => .row (.bgez (s w) (imm w))
  | 0x10#5 => .row (.bltzal (s w) (imm w))
  | 0x11#5 => .row (.bgezal (s w) (imm w))
  | _ => .unknown w

/-- The row `mfc<z>` (R176 to R179). -/
def mfc (z : BitVec 2) (t d : RegIdx) : Instr :=
  match z with
  | 0#2 => .mfc0 t d
  | 1#2 => .mfc1 t d
  | 2#2 => .mfc2 t d
  | 3#2 => .mfc3 t d

/-- The row `cfc<z>` (R180 to R183). -/
def cfc (z : BitVec 2) (t d : RegIdx) : Instr :=
  match z with
  | 0#2 => .cfc0 t d
  | 1#2 => .cfc1 t d
  | 2#2 => .cfc2 t d
  | 3#2 => .cfc3 t d

/-- The row `mtc<z>` (R184 to R187). -/
def mtc (z : BitVec 2) (t d : RegIdx) : Instr :=
  match z with
  | 0#2 => .mtc0 t d
  | 1#2 => .mtc1 t d
  | 2#2 => .mtc2 t d
  | 3#2 => .mtc3 t d

/-- The row `ctc<z>` (R188 to R191). -/
def ctc (z : BitVec 2) (t d : RegIdx) : Instr :=
  match z with
  | 0#2 => .ctc0 t d
  | 1#2 => .ctc1 t d
  | 2#2 => .ctc2 t d
  | 3#2 => .ctc3 t d

/-- The row `bc<z>f` (R192 to R195). -/
def bcf (z : BitVec 2) (imm : BitVec 16) : Instr :=
  match z with
  | 0#2 => .bc0f imm
  | 1#2 => .bc1f imm
  | 2#2 => .bc2f imm
  | 3#2 => .bc3f imm

/-- The row `bc<z>t` (R196 to R199). -/
def bct (z : BitVec 2) (imm : BitVec 16) : Instr :=
  match z with
  | 0#2 => .bc0t imm
  | 1#2 => .bc1t imm
  | 2#2 => .bc2t imm
  | 3#2 => .bc3t imm

/-- R65: the operations of coprocessor 0: `cop_opcode` = 0x10 exactly, and the row is that of `subfunction`
(decision D5). -/
def decodeCop0Operation (w : Word) : Classified :=
  if cop_opcode w = 0x10#5 then
    match subfunction w with
    | 0x01#6 => .row .tlbr
    | 0x02#6 => .row .tlbwi
    | 0x06#6 => .row .tlbwr
    | 0x08#6 => .row .tlbp
    | 0x10#6 => .row .rfe
    | _ => .unknown w
  else .unknown w

/-- R65: a coprocessor operation, bit 25 set: the generic rows `cop1`, `cop2`, `cop3`, any low bits; the named
operations for coprocessor 0. -/
def decodeOperation (z : BitVec 2) (w : Word) : Classified :=
  match z with
  | 0#2 => decodeCop0Operation w
  | 1#2 => .row (.cop1 (cofun w))
  | 2#2 => .row (.cop2 (cofun w))
  | 3#2 => .row (.cop3 (cofun w))

/-- R65: a coprocessor branch, `cop_opcode` = 0x08: the row is that of `t` (decision D4). -/
def decodeCopBranch (z : BitVec 2) (w : Word) : Classified :=
  match t w with
  | 0x00#5 => .row (bcf z (imm w))
  | 0x01#5 => .row (bct z (imm w))
  | _ => .unknown w

/-- R65, arm 2: `function` = 0x10 + z (decision D28: the moves are recognised for every z). -/
def decodeCop (z : BitVec 2) (w : Word) : Classified :=
  if (cop_opcode w).getLsbD 4 then decodeOperation z w
  else
    match cop_opcode w with
    | 0x00#5 => .row (mfc z (t w) (d w))
    | 0x02#5 => .row (cfc z (t w) (d w))
    | 0x04#5 => .row (mtc z (t w) (d w))
    | 0x06#5 => .row (ctc z (t w) (d w))
    | 0x08#5 => decodeCopBranch z w
    | _ => .unknown w

/-- The classifier (41_dispatch_render.md R65): first `function`, then the sub-field of its arm. Total on all 2^32
words. -/
def decode (w : Word) : Classified :=
  match function w with
  | 0x00#6 => decodeSpecial w
  | 0x01#6 => decodeByT w
  | 0x02#6 => .row (.j (imm_jump w))
  | 0x03#6 => .row (.jal (imm_jump w))
  | 0x04#6 => .row (.beq (s w) (t w) (imm w))
  | 0x05#6 => .row (.bne (s w) (t w) (imm w))
  | 0x06#6 => .row (.blez (s w) (imm w))
  | 0x07#6 => .row (.bgtz (s w) (imm w))
  | 0x08#6 => .row (.addi (t w) (s w) (imm w))
  | 0x09#6 => .row (.addiu (t w) (s w) (imm w))
  | 0x0A#6 => .row (.slti (t w) (s w) (imm w))
  | 0x0B#6 => .row (.sltiu (t w) (s w) (imm w))
  | 0x0C#6 => .row (.andi (t w) (s w) (imm w))
  | 0x0D#6 => .row (.ori (t w) (s w) (imm w))
  | 0x0E#6 => .row (.xori (t w) (s w) (imm w))
  | 0x0F#6 => .row (.lui (t w) (imm w))
  | 0x10#6 => decodeCop 0#2 w
  | 0x11#6 => decodeCop 1#2 w
  | 0x12#6 => decodeCop 2#2 w
  | 0x13#6 => decodeCop 3#2 w
  | 0x20#6 => .row (.lb (t w) (imm w) (s w))
  | 0x21#6 => .row (.lh (t w) (imm w) (s w))
  | 0x22#6 => .row (.lwl (t w) (imm w) (s w))
  | 0x23#6 => .row (.lw (t w) (imm w) (s w))
  | 0x24#6 => .row (.lbu (t w) (imm w) (s w))
  | 0x25#6 => .row (.lhu (t w) (imm w) (s w))
  | 0x26#6 => .row (.lwr (t w) (imm w) (s w))
  | 0x28#6 => .row (.sb (t w) (imm w) (s w))
  | 0x29#6 => .row (.sh (t w) (imm w) (s w))
  | 0x2A#6 => .row (.swl (t w) (imm w) (s w))
  | 0x2B#6 => .row (.sw (t w) (imm w) (s w))
  | 0x2E#6 => .row (.swr (t w) (imm w) (s w))
  | 0x30#6 => .row (.lwc0 (t w) (imm w) (s w))
  | 0x31#6 => .row (.lwc1 (t w) (imm w) (s w))
  | 0x32#6 => .row (.lwc2 (t w) (imm w) (s w))
  | 0x33#6 => .row (.lwc3 (t w) (imm w) (s w))
  | 0x38#6 => .row (.swc0 (t w) (imm w) (s w))
  | 0x39#6 => .row (.swc1 (t w) (imm w) (s w))
  | 0x3A#6 => .row (.swc2 (t w) (imm w) (s w))
  | 0x3B#6 => .row (.swc3 (t w) (imm w) (s w))
  | _ => .unknown w

/-! ## The reference encoder (R108): the words of an instruction, from the layouts of 30_encoding.md R36 -/

/-- Format R, `function` = 0. -/
def wordR (s t d : RegIdx) (shift : BitVec 5) (subfunction : BitVec 6) : Word :=
  0x00#6 ++ s ++ t ++ d ++ shift ++ subfunction

/-- Format I. -/
def wordI (function : BitVec 6) (s t : RegIdx) (imm : BitVec 16) : Word := function ++ s ++ t ++ imm

/-- Format J. -/
def wordJ (function : BitVec 6) (imm_jump : BitVec 26) : Word := function ++ imm_jump

/-- Format COP, register form and named operations; `low` is bits 10:0. -/
def wordC (z : BitVec 2) (cop_opcode : BitVec 5) (t d : RegIdx) (low : BitVec 11) : Word :=
  0x4#4 ++ z ++ cop_opcode ++ t ++ d ++ low

/-- Format COP, branch form. -/
def wordB (z : BitVec 2) (t : RegIdx) (imm : BitVec 16) : Word := 0x4#4 ++ z ++ 0x08#5 ++ t ++ imm

/-- Format COP, generic operation: bit 25 set, then the cofun. -/
def wordO (z : BitVec 2) (cofun : BitVec 25) : Word := 0x4#4 ++ z ++ 1#1 ++ cofun

/-- The word of an instruction, every bit that its row neither examines nor shows 0. -/
def encode (i : Instr) : Word :=
  match i with
  | .sll d t shift => wordR 0#5 t d shift 0x00#6
  | .srl d t shift => wordR 0#5 t d shift 0x02#6
  | .sra d t shift => wordR 0#5 t d shift 0x03#6
  | .sllv d t s => wordR s t d 0#5 0x04#6
  | .srlv d t s => wordR s t d 0#5 0x06#6
  | .srav d t s => wordR s t d 0#5 0x07#6
  | .jr s => wordR s 0#5 0#5 0#5 0x08#6
  | .jalr d s => wordR s 0#5 d 0#5 0x09#6
  | .syscall => wordR 0#5 0#5 0#5 0#5 0x0C#6
  | .brk => wordR 0#5 0#5 0#5 0#5 0x0D#6
  | .mfhi d => wordR 0#5 0#5 d 0#5 0x10#6
  | .mthi s => wordR s 0#5 0#5 0#5 0x11#6
  | .mflo d => wordR 0#5 0#5 d 0#5 0x12#6
  | .mtlo s => wordR s 0#5 0#5 0#5 0x13#6
  | .mult s t => wordR s t 0#5 0#5 0x18#6
  | .multu s t => wordR s t 0#5 0#5 0x19#6
  | .div s t => wordR s t 0#5 0#5 0x1A#6
  | .divu s t => wordR s t 0#5 0#5 0x1B#6
  | .add d s t => wordR s t d 0#5 0x20#6
  | .addu d s t => wordR s t d 0#5 0x21#6
  | .sub d s t => wordR s t d 0#5 0x22#6
  | .subu d s t => wordR s t d 0#5 0x23#6
  | .and d s t => wordR s t d 0#5 0x24#6
  | .or d s t => wordR s t d 0#5 0x25#6
  | .xor d s t => wordR s t d 0#5 0x26#6
  | .nor d s t => wordR s t d 0#5 0x27#6
  | .slt d s t => wordR s t d 0#5 0x2A#6
  | .sltu d s t => wordR s t d 0#5 0x2B#6
  | .bltz s imm => wordI 0x01#6 s 0x00#5 imm
  | .bgez s imm => wordI 0x01#6 s 0x01#5 imm
  | .bltzal s imm => wordI 0x01#6 s 0x10#5 imm
  | .bgezal s imm => wordI 0x01#6 s 0x11#5 imm
  | .j imm_jump => wordJ 0x02#6 imm_jump
  | .jal imm_jump => wordJ 0x03#6 imm_jump
  | .beq s t imm => wordI 0x04#6 s t imm
  | .bne s t imm => wordI 0x05#6 s t imm
  | .blez s imm => wordI 0x06#6 s 0#5 imm
  | .bgtz s imm => wordI 0x07#6 s 0#5 imm
  | .addi t s imm => wordI 0x08#6 s t imm
  | .addiu t s imm => wordI 0x09#6 s t imm
  | .slti t s imm => wordI 0x0A#6 s t imm
  | .sltiu t s imm => wordI 0x0B#6 s t imm
  | .andi t s imm => wordI 0x0C#6 s t imm
  | .ori t s imm => wordI 0x0D#6 s t imm
  | .xori t s imm => wordI 0x0E#6 s t imm
  | .lui t imm => wordI 0x0F#6 0#5 t imm
  | .lb t imm s => wordI 0x20#6 s t imm
  | .lh t imm s => wordI 0x21#6 s t imm
  | .lwl t imm s => wordI 0x22#6 s t imm
  | .lw t imm s => wordI 0x23#6 s t imm
  | .lbu t imm s => wordI 0x24#6 s t imm
  | .lhu t imm s => wordI 0x25#6 s t imm
  | .lwr t imm s => wordI 0x26#6 s t imm
  | .sb t imm s => wordI 0x28#6 s t imm
  | .sh t imm s => wordI 0x29#6 s t imm
  | .swl t imm s => wordI 0x2A#6 s t imm
  | .sw t imm s => wordI 0x2B#6 s t imm
  | .swr t imm s => wordI 0x2E#6 s t imm
  | .lwc0 t imm s => wordI 0x30#6 s t imm
  | .lwc1 t imm s => wordI 0x31#6 s t imm
  | .lwc2 t imm s => wordI 0x32#6 s t imm
  | .lwc3 t imm s => wordI 0x33#6 s t imm
  | .swc0 t imm s => wordI 0x38#6 s t imm
  | .swc1 t imm s => wordI 0x39#6 s t imm
  | .swc2 t imm s => wordI 0x3A#6 s t imm
  | .swc3 t imm s => wordI 0x3B#6 s t imm
  | .mfc0 t d => wordC 0#2 0x00#5 t d 0#11
  | .mfc1 t d => wordC 1#2 0x00#5 t d 0#11
  | .mfc2 t d => wordC 2#2 0x00#5 t d 0#11
  | .mfc3 t d => wordC 3#2 0x00#5 t d 0#11
  | .cfc0 t d => wordC 0#2 0x02#5 t d 0#11
  | .cfc1 t d => wordC 1#2 0x02#5 t d 0#11
  | .cfc2 t d => wordC 2#2 0x02#5 t d 0#11
  | .cfc3 t d => wordC 3#2 0x02#5 t d 0#11
  | .mtc0 t d => wordC 0#2 0x04#5 t d 0#11
  | .mtc1 t d => wordC 1#2 0x04#5 t d 0#11
  | .mtc2 t d => wordC 2#2 0x04#5 t d 0#11
  | .mtc3 t d => wordC 3#2 0x04#5 t d 0#11
  | .ctc0 t d => wordC 0#2 0x06#5 t d 0#11
  | .ctc1 t d => wordC 1#2 0x06#5 t d 0#11
  | .ctc2 t d => wordC 2#2 0x06#5 t d 0#11
  | .ctc3 t d => wordC 3#2 0x06#5 t d 0#11
  | .bc0f imm => wordB 0#2 0x00#5 imm
  | .bc1f imm => wordB 1#2 0x00#5 imm
  | .bc2f imm => wordB 2#2 0x00#5 imm
  | .bc3f imm => wordB 3#2 0x00#5 imm
  | .bc0t imm => wordB 0#2 0x01#5 imm
  | .bc1t imm => wordB 1#2 0x01#5 imm
  | .bc2t imm => wordB 2#2 0x01#5 imm
  | .bc3t imm => wordB 3#2 0x01#5 imm
  | .tlbr => wordC 0#2 0x10#5 0#5 0#5 0x01#11
  | .tlbwi => wordC 0#2 0x10#5 0#5 0#5 0x02#11
  | .tlbwr => wordC 0#2 0x10#5 0#5 0#5 0x06#11
  | .tlbp => wordC 0#2 0x10#5 0#5 0#5 0x08#11
  | .rfe => wordC 0#2 0x10#5 0#5 0#5 0x10#11
  | .cop1 cofun => wordO 1#2 cofun
  | .cop2 cofun => wordO 2#2 cofun
  | .cop3 cofun => wordO 3#2 cofun

/-- The identifier of an instruction's row (41_dispatch_render.md R67). -/
def Instr.op (i : Instr) : Op :=
  match i with
  | .sll _ _ _ => .sll
  | .srl _ _ _ => .srl
  | .sra _ _ _ => .sra
  | .sllv _ _ _ => .sllv
  | .srlv _ _ _ => .srlv
  | .srav _ _ _ => .srav
  | .jr _ => .jr
  | .jalr _ _ => .jalr
  | .syscall => .syscall
  | .brk => .brk
  | .mfhi _ => .mfhi
  | .mthi _ => .mthi
  | .mflo _ => .mflo
  | .mtlo _ => .mtlo
  | .mult _ _ => .mult
  | .multu _ _ => .multu
  | .div _ _ => .div
  | .divu _ _ => .divu
  | .add _ _ _ => .add
  | .addu _ _ _ => .addu
  | .sub _ _ _ => .sub
  | .subu _ _ _ => .subu
  | .and _ _ _ => .and
  | .or _ _ _ => .or
  | .xor _ _ _ => .xor
  | .nor _ _ _ => .nor
  | .slt _ _ _ => .slt
  | .sltu _ _ _ => .sltu
  | .bltz _ _ => .bltz
  | .bgez _ _ => .bgez
  | .bltzal _ _ => .bltzal
  | .bgezal _ _ => .bgezal
  | .j _ => .j
  | .jal _ => .jal
  | .beq _ _ _ => .beq
  | .bne _ _ _ => .bne
  | .blez _ _ => .blez
  | .bgtz _ _ => .bgtz
  | .addi _ _ _ => .addi
  | .addiu _ _ _ => .addiu
  | .slti _ _ _ => .slti
  | .sltiu _ _ _ => .sltiu
  | .andi _ _ _ => .andi
  | .ori _ _ _ => .ori
  | .xori _ _ _ => .xori
  | .lui _ _ => .lui
  | .lb _ _ _ => .lb
  | .lh _ _ _ => .lh
  | .lwl _ _ _ => .lwl
  | .lw _ _ _ => .lw
  | .lbu _ _ _ => .lbu
  | .lhu _ _ _ => .lhu
  | .lwr _ _ _ => .lwr
  | .sb _ _ _ => .sb
  | .sh _ _ _ => .sh
  | .swl _ _ _ => .swl
  | .sw _ _ _ => .sw
  | .swr _ _ _ => .swr
  | .lwc0 _ _ _ => .lwc0
  | .lwc1 _ _ _ => .lwc1
  | .lwc2 _ _ _ => .lwc2
  | .lwc3 _ _ _ => .lwc3
  | .swc0 _ _ _ => .swc0
  | .swc1 _ _ _ => .swc1
  | .swc2 _ _ _ => .swc2
  | .swc3 _ _ _ => .swc3
  | .mfc0 _ _ => .mfc0
  | .mfc1 _ _ => .mfc1
  | .mfc2 _ _ => .mfc2
  | .mfc3 _ _ => .mfc3
  | .cfc0 _ _ => .cfc0
  | .cfc1 _ _ => .cfc1
  | .cfc2 _ _ => .cfc2
  | .cfc3 _ _ => .cfc3
  | .mtc0 _ _ => .mtc0
  | .mtc1 _ _ => .mtc1
  | .mtc2 _ _ => .mtc2
  | .mtc3 _ _ => .mtc3
  | .ctc0 _ _ => .ctc0
  | .ctc1 _ _ => .ctc1
  | .ctc2 _ _ => .ctc2
  | .ctc3 _ _ => .ctc3
  | .bc0f _ => .bc0f
  | .bc1f _ => .bc1f
  | .bc2f _ => .bc2f
  | .bc3f _ => .bc3f
  | .bc0t _ => .bc0t
  | .bc1t _ => .bc1t
  | .bc2t _ => .bc2t
  | .bc3t _ => .bc3t
  | .tlbr => .tlbr
  | .tlbwi => .tlbwi
  | .tlbwr => .tlbwr
  | .tlbp => .tlbp
  | .rfe => .rfe
  | .cop1 _ => .cop1
  | .cop2 _ => .cop2
  | .cop3 _ => .cop3

/-- The bits that the row of an instruction neither examines nor shows (30_encoding.md R40; the line "Bits neither
examined nor shown" of its rule). -/
def Instr.freeBits (i : Instr) : Word :=
  match i with
  | .sll _ _ _ => 0x03E00000#32
  | .srl _ _ _ => 0x03E00000#32
  | .sra _ _ _ => 0x03E00000#32
  | .sllv _ _ _ => 0x000007C0#32
  | .srlv _ _ _ => 0x000007C0#32
  | .srav _ _ _ => 0x000007C0#32
  | .jr _ => 0x001FFFC0#32
  | .jalr _ _ => 0x001F07C0#32
  | .syscall => 0x03FFFFC0#32
  | .brk => 0x03FFFFC0#32
  | .mfhi _ => 0x03FF07C0#32
  | .mthi _ => 0x001FFFC0#32
  | .mflo _ => 0x03FF07C0#32
  | .mtlo _ => 0x001FFFC0#32
  | .mult _ _ => 0x0000FFC0#32
  | .multu _ _ => 0x0000FFC0#32
  | .div _ _ => 0x0000FFC0#32
  | .divu _ _ => 0x0000FFC0#32
  | .add _ _ _ => 0x000007C0#32
  | .addu _ _ _ => 0x000007C0#32
  | .sub _ _ _ => 0x000007C0#32
  | .subu _ _ _ => 0x000007C0#32
  | .and _ _ _ => 0x000007C0#32
  | .or _ _ _ => 0x000007C0#32
  | .xor _ _ _ => 0x000007C0#32
  | .nor _ _ _ => 0x000007C0#32
  | .slt _ _ _ => 0x000007C0#32
  | .sltu _ _ _ => 0x000007C0#32
  | .bltz _ _ => 0x00000000#32
  | .bgez _ _ => 0x00000000#32
  | .bltzal _ _ => 0x00000000#32
  | .bgezal _ _ => 0x00000000#32
  | .j _ => 0x00000000#32
  | .jal _ => 0x00000000#32
  | .beq _ _ _ => 0x00000000#32
  | .bne _ _ _ => 0x00000000#32
  | .blez _ _ => 0x001F0000#32
  | .bgtz _ _ => 0x001F0000#32
  | .addi _ _ _ => 0x00000000#32
  | .addiu _ _ _ => 0x00000000#32
  | .slti _ _ _ => 0x00000000#32
  | .sltiu _ _ _ => 0x00000000#32
  | .andi _ _ _ => 0x00000000#32
  | .ori _ _ _ => 0x00000000#32
  | .xori _ _ _ => 0x00000000#32
  | .lui _ _ => 0x03E00000#32
  | .lb _ _ _ => 0x00000000#32
  | .lh _ _ _ => 0x00000000#32
  | .lwl _ _ _ => 0x00000000#32
  | .lw _ _ _ => 0x00000000#32
  | .lbu _ _ _ => 0x00000000#32
  | .lhu _ _ _ => 0x00000000#32
  | .lwr _ _ _ => 0x00000000#32
  | .sb _ _ _ => 0x00000000#32
  | .sh _ _ _ => 0x00000000#32
  | .swl _ _ _ => 0x00000000#32
  | .sw _ _ _ => 0x00000000#32
  | .swr _ _ _ => 0x00000000#32
  | .lwc0 _ _ _ => 0x00000000#32
  | .lwc1 _ _ _ => 0x00000000#32
  | .lwc2 _ _ _ => 0x00000000#32
  | .lwc3 _ _ _ => 0x00000000#32
  | .swc0 _ _ _ => 0x00000000#32
  | .swc1 _ _ _ => 0x00000000#32
  | .swc2 _ _ _ => 0x00000000#32
  | .swc3 _ _ _ => 0x00000000#32
  | .mfc0 _ _ => 0x000007FF#32
  | .mfc1 _ _ => 0x000007FF#32
  | .mfc2 _ _ => 0x000007FF#32
  | .mfc3 _ _ => 0x000007FF#32
  | .cfc0 _ _ => 0x000007FF#32
  | .cfc1 _ _ => 0x000007FF#32
  | .cfc2 _ _ => 0x000007FF#32
  | .cfc3 _ _ => 0x000007FF#32
  | .mtc0 _ _ => 0x000007FF#32
  | .mtc1 _ _ => 0x000007FF#32
  | .mtc2 _ _ => 0x000007FF#32
  | .mtc3 _ _ => 0x000007FF#32
  | .ctc0 _ _ => 0x000007FF#32
  | .ctc1 _ _ => 0x000007FF#32
  | .ctc2 _ _ => 0x000007FF#32
  | .ctc3 _ _ => 0x000007FF#32
  | .bc0f _ => 0x00000000#32
  | .bc1f _ => 0x00000000#32
  | .bc2f _ => 0x00000000#32
  | .bc3f _ => 0x00000000#32
  | .bc0t _ => 0x00000000#32
  | .bc1t _ => 0x00000000#32
  | .bc2t _ => 0x00000000#32
  | .bc3t _ => 0x00000000#32
  | .tlbr => 0x001FFFC0#32
  | .tlbwi => 0x001FFFC0#32
  | .tlbwr => 0x001FFFC0#32
  | .tlbp => 0x001FFFC0#32
  | .rfe => 0x001FFFC0#32
  | .cop1 _ => 0x00000000#32
  | .cop2 _ => 0x00000000#32
  | .cop3 _ => 0x00000000#32

/-- The word of an instruction with any values in the bits its row neither examines nor shows (R108). -/
def encodeWith (junk : Word) (i : Instr) : Word := encode i ||| (junk &&& i.freeBits)

/-! ## How a word comes to the block -/

/-- The host's assembly of four bytes, lowest address first, into the word (20_memory.md R26). It happens before the
block; the byte order is the host's, and OPEN (decision D19), so it is an argument here. -/
def assemble (order : HostByteOrder) (b0 b1 b2 b3 : Byte) : Word :=
  match order with
  | .BIG => b0 ++ b1 ++ b2 ++ b3
  | .LITTLE => b3 ++ b2 ++ b1 ++ b0

/-- The classifier on a host's byte stream: the first word's result and the bytes after it. Fewer than four bytes
make no word, so the block is given none (40_field_extract.md R64, 93_implementation_defined.md U2). -/
def decodeBytes (order : HostByteOrder) (bs : List Byte) : Option (Classified × List Byte) :=
  match bs with
  | b0 :: b1 :: b2 :: b3 :: rest => some (decode (assemble order b0 b1 b2 b3), rest)
  | _ => none

/-- An opcode-table word as the value on `instr_i`: the table numbers bits as the port does (00_scope.md R6), every row
has 32 bits (30_encoding.md R35), and the bits above `nbits` are 0. -/
def tableWord (nbits w : Nat) : Word := BitVec.ofNat 32 (w % 2 ^ nbits)

/-- The instruction the decoder reads from an opcode-table word, none for the unknown outcome. -/
def decodeTableWord (nbits w : Nat) : Option Instr :=
  match decode (tableWord nbits w) with
  | .row i => some i
  | .unknown _ => none

end Sys2Proof
end

