-- ==== Sys2Proof/Machine/Flags.lean ====
section
/-! DEFINITION. The one-bit outputs. The block has no status flags, condition codes or predicates (10_state.md R17); the
one bit it computes about a word beside the classification is `nop_o` (41_dispatch_render.md R102); `known_o` (R66) is
driven with the matched row in Ops.lean. -/

namespace Sys2Proof.Machine

/-- R102: `nop_o` = 1 exactly when `w` = 0x00000000. -/
def nopFlag (w : Word) : Bool := w == 0x00000000#32

end Sys2Proof.Machine
end

