-- ==== Sys2Proof/Machine/State.lean ====
section
/-! DEFINITION. The state of the model, and the reasons a step could stop.

The block itself holds no state (10_state.md R13). `State` holds what a run of it consists of: the parameter
`REG_NAMING` of the instance, which no step changes; the word on the port `instr_i`; the words the host will present
after it; and the values on the outputs: the ten fields and the components of `Decoded` (R23). A step reads no output an
earlier step left. The ports of 41_dispatch_render.md R107 are computed from these (Machine/Ports.lean). -/

namespace Sys2Proof.Machine

/-- The ten field outputs, one per accessor (40_field_extract.md R51 to R61). -/
structure Fields where
  function    : BitVec 6
  cop_opcode  : BitVec 5
  s           : RegIdx
  t           : RegIdx
  d           : RegIdx
  shift       : BitVec 5
  subfunction : BitVec 6
  imm         : BitVec 16
  imm_se      : BitVec 32
  imm_jump    : BitVec 26
  deriving DecidableEq, Repr

/-- The decoded instruction, the block's result (10_state.md R23). -/
structure Decoded where
  known    : Bool
  op       : Op
  shape    : Shape
  fmt      : Fmt
  copz     : BitVec 2
  nop      : Bool
  operands : List Operand
  text     : Text
  deriving DecidableEq, Repr

/-- What one renderer puts out: its own code, its operand list and its text (41_dispatch_render.md R70). -/
structure Rendering where
  fmt      : Fmt
  operands : List Operand
  text     : Text
  deriving DecidableEq, Repr

/-- The state of one instance and its host. -/
structure State where
  /-- the elaboration-time parameter `REG_NAMING` (00_scope.md R5) -/
  regNaming : RegNaming
  /-- the word on the input port `instr_i` (10_state.md R22) -/
  instr_i : Word
  /-- the host's: the words it presents next, in order (60_exceptions.md R235, 70_reset_and_hazards.md R248) -/
  pending : List Word
  /-- the ten field outputs (40_field_extract.md R50) -/
  fields : Fields
  /-- the decoded instruction (10_state.md R23) -/
  decoded : Decoded
  deriving DecidableEq, Repr

/-- The faults of a step. There is none: no input can make the block stop, hang or wait, and it raises no exception
(60_exceptions.md R216, R218), so the type is empty. -/
inductive Fault where
  deriving DecidableEq, Repr

/-- The refusals of a step. -/
inductive Refusal where
  /-- Raised by exec alone, for an instruction that has no meaning yet. Every instruction has one, so nothing raises
  it. Safe: the model stops where the block goes on. -/
  | notModelled (mnemonic : String)
  deriving DecidableEq, Repr

/-- The block with the idle word 0x00000000 on `instr_i` and the outputs that word has (70_reset_and_hazards.md R236,
R237). There is no state to reset; `instr_i` = 0 and an empty host queue are the model's choice
(notes/assumptions/3.md). -/
def State.reset : State where
  regNaming := Config.regNamingDefault
  instr_i := 0#32
  pending := []
  fields := ⟨0#6, 0#5, 0#5, 0#5, 0#5, 0#5, 0#6, 0#16, 0#32, 0#26⟩
  decoded :=
    { known := true, op := .sll, shape := .R, fmt := .F_D_T_SH, copz := 0#2, nop := true,
      operands := [⟨.GPR, 0#32⟩, ⟨.GPR, 0#32⟩, ⟨.SHAMT, 0#32⟩], text := ['n', 'o', 'p'] }

end Sys2Proof.Machine
end

