-- ==== Sys2Proof/Machine/Text.lean ====
section
/-! DEFINITION. The text helpers of 41_dispatch_render.md section 3 (R73 to R79), the common grammar of R80 and the
mnemonics (the column mnemonic of spec/opcode_table.json). -/

namespace Sys2Proof

/-- R80: the mnemonic of a row, in lowercase, exactly as the table spells it. No row has the op `UNKNOWN`, whose text is
that of R81. -/
def Op.mnemonic (op : Op) : Text :=
  match op with
  | .UNKNOWN => []
  | .sll => "sll".toList
  | .srl => "srl".toList
  | .sra => "sra".toList
  | .sllv => "sllv".toList
  | .srlv => "srlv".toList
  | .srav => "srav".toList
  | .jr => "jr".toList
  | .jalr => "jalr".toList
  | .syscall => "syscall".toList
  | .brk => "break".toList
  | .mfhi => "mfhi".toList
  | .mthi => "mthi".toList
  | .mflo => "mflo".toList
  | .mtlo => "mtlo".toList
  | .mult => "mult".toList
  | .multu => "multu".toList
  | .div => "div".toList
  | .divu => "divu".toList
  | .add => "add".toList
  | .addu => "addu".toList
  | .sub => "sub".toList
  | .subu => "subu".toList
  | .and => "and".toList
  | .or => "or".toList
  | .xor => "xor".toList
  | .nor => "nor".toList
  | .slt => "slt".toList
  | .sltu => "sltu".toList
  | .bltz => "bltz".toList
  | .bgez => "bgez".toList
  | .bltzal => "bltzal".toList
  | .bgezal => "bgezal".toList
  | .j => "j".toList
  | .jal => "jal".toList
  | .beq => "beq".toList
  | .bne => "bne".toList
  | .blez => "blez".toList
  | .bgtz => "bgtz".toList
  | .addi => "addi".toList
  | .addiu => "addiu".toList
  | .slti => "slti".toList
  | .sltiu => "sltiu".toList
  | .andi => "andi".toList
  | .ori => "ori".toList
  | .xori => "xori".toList
  | .lui => "lui".toList
  | .lb => "lb".toList
  | .lh => "lh".toList
  | .lwl => "lwl".toList
  | .lw => "lw".toList
  | .lbu => "lbu".toList
  | .lhu => "lhu".toList
  | .lwr => "lwr".toList
  | .sb => "sb".toList
  | .sh => "sh".toList
  | .swl => "swl".toList
  | .sw => "sw".toList
  | .swr => "swr".toList
  | .lwc0 => "lwc0".toList
  | .lwc1 => "lwc1".toList
  | .lwc2 => "lwc2".toList
  | .lwc3 => "lwc3".toList
  | .swc0 => "swc0".toList
  | .swc1 => "swc1".toList
  | .swc2 => "swc2".toList
  | .swc3 => "swc3".toList
  | .mfc0 => "mfc0".toList
  | .mfc1 => "mfc1".toList
  | .mfc2 => "mfc2".toList
  | .mfc3 => "mfc3".toList
  | .cfc0 => "cfc0".toList
  | .cfc1 => "cfc1".toList
  | .cfc2 => "cfc2".toList
  | .cfc3 => "cfc3".toList
  | .mtc0 => "mtc0".toList
  | .mtc1 => "mtc1".toList
  | .mtc2 => "mtc2".toList
  | .mtc3 => "mtc3".toList
  | .ctc0 => "ctc0".toList
  | .ctc1 => "ctc1".toList
  | .ctc2 => "ctc2".toList
  | .ctc3 => "ctc3".toList
  | .bc0f => "bc0f".toList
  | .bc1f => "bc1f".toList
  | .bc2f => "bc2f".toList
  | .bc3f => "bc3f".toList
  | .bc0t => "bc0t".toList
  | .bc1t => "bc1t".toList
  | .bc2t => "bc2t".toList
  | .bc3t => "bc3t".toList
  | .tlbr => "tlbr".toList
  | .tlbwi => "tlbwi".toList
  | .tlbwr => "tlbwr".toList
  | .tlbp => "tlbp".toList
  | .rfe => "rfe".toList
  | .cop1 => "cop1".toList
  | .cop2 => "cop2".toList
  | .cop3 => "cop3".toList

namespace Machine

/-- The digit of value `n`, lowercase (R75, R76). -/
def digit (n : Nat) : Char := if n < 10 then Char.ofNat (48 + n) else Char.ofNat (87 + n)

/-- The numeral of `n` in the given base, put in front of `acc`. `fuel` bounds the number of digits; `n + 1` is
enough in any base from 2 on. -/
def numeral (base : Nat) : Nat → Nat → Text → Text
  | 0, _, acc => acc
  | fuel + 1, n, acc =>
    if n < base then digit n :: acc else numeral base fuel (n / base) (digit (n % base) :: acc)

/-- R75: `dec(v)`, decimal, no leading zeros, `0` for zero. -/
def dec (v : Nat) : Text := numeral 10 (v + 1) v []

/-- R75: `sdec` of an integer: a minus sign and the numeral when negative, no plus sign otherwise. -/
def sdecInt (v : Int) : Text := if v < 0 then '-' :: dec v.natAbs else dec v.natAbs

/-- R75: `sdec(p)` of a 32-bit pattern: the decimal numeral of `signed(p)`. -/
def sdec (p : BitVec 32) : Text := sdecInt p.toInt

/-- R76: `hex(v)`: `0x` and the lowercase hexadecimal numeral, no leading zeros, `0x0` for zero. -/
def hex (v : Nat) : Text := '0' :: 'x' :: numeral 16 (v + 1) v []

/-- The lowest `k` hexadecimal digits of `v`, put in front of `acc`, leading zeros kept. -/
def hexDigits : Nat → Nat → Text → Text
  | 0, _, acc => acc
  | k + 1, v, acc => hexDigits k (v / 16) (digit (v % 16) :: acc)

/-- R77: `hex8(v)`: exactly eight hexadecimal digits, lowercase, leading zeros, no prefix. -/
def hex8 (v : Word) : Text := hexDigits 8 v.toNat []

/-- 10_state.md R15: the software names of the general registers, for `REG_NAMING = ABI` (decision D30). -/
def abiNames : List String :=
  ["$zero", "$at", "$v0", "$v1", "$a0", "$a1", "$a2", "$a3", "$t0", "$t1", "$t2", "$t3", "$t4", "$t5", "$t6", "$t7",
   "$s0", "$s1", "$s2", "$s3", "$s4", "$s5", "$s6", "$s7", "$t8", "$t9", "$k0", "$k1", "$gp", "$sp", "$fp", "$ra"]

/-- R73: `gpr(n)`, the name of general register `n`. -/
def gpr (naming : RegNaming) (n : RegIdx) : Text :=
  match naming with
  | .NUMERIC => '$' :: dec n.toNat
  | .ABI => (abiNames.getD n.toNat "").toList

/-- R74: `cprd(z, n)`, a coprocessor data register; it does not depend on `REG_NAMING`. -/
def cprd (z : BitVec 2) (n : RegIdx) : Text := "cop".toList ++ dec z.toNat ++ "r".toList ++ dec n.toNat

/-- R74: `cprc(z, n)`, a coprocessor control register. -/
def cprc (z : BitVec 2) (n : RegIdx) : Text := "cop".toList ++ dec z.toNat ++ "c".toList ++ dec n.toNat

/-- R78: the branch displacement in bytes, `4 * signed(imm_se)`; no program counter is added (10_state.md R16). -/
def broff (imm_se : BitVec 32) : Int := 4 * imm_se.toInt

/-- R79: the jump target `4 * imm_jump`, 28 bits; the block does not know the upper four address bits. -/
def jtarget (imm_jump : BitVec 26) : Nat := 4 * imm_jump.toNat

/-- R80: the operands, separated by a comma and one space. -/
def joinOperands : List Text → Text
  | [] => []
  | [a] => a
  | a :: b :: rest => a ++ ", ".toList ++ joinOperands (b :: rest)

/-- R80: the mnemonic, then one space and the operands if there are any. -/
def line (mn : Text) (ops : List Text) : Text :=
  match ops with
  | [] => mn
  | _ :: _ => mn ++ " ".toList ++ joinOperands ops

/-- R80: a memory operand, displacement, parenthesis, base, with no space inside. -/
def memOperand (disp base : Text) : Text := disp ++ "(".toList ++ base ++ ")".toList

end Machine
end Sys2Proof
end

