-- ==== Sys2Proof/Machine/Operands.lean ====
section
/-! DEFINITION. The operand descriptors (41_dispatch_render.md R72) and the 21 renderers (R81 to R101). A renderer
takes the naming style, the mnemonic of the matched row (the coprocessor renderers also `copz`) and the fields it
shows. -/

namespace Sys2Proof.Machine

/-- R72: kind `GPR`, a general-register index. -/
def opGpr (n : RegIdx) : Operand := ⟨.GPR, n.setWidth 32⟩

/-- R72: kind `CPR_D`, a coprocessor data-register index; the coprocessor is `copz`. -/
def opCprD (n : RegIdx) : Operand := ⟨.CPR_D, n.setWidth 32⟩

/-- R72: kind `CPR_C`, a coprocessor control-register index. -/
def opCprC (n : RegIdx) : Operand := ⟨.CPR_C, n.setWidth 32⟩

/-- R72: kind `SHAMT`, the shift amount. -/
def opShamt (shift : BitVec 5) : Operand := ⟨.SHAMT, shift.setWidth 32⟩

/-- R72: kind `IMM_S`, the 32-bit pattern `imm_se`. -/
def opImmS (imm_se : BitVec 32) : Operand := ⟨.IMM_S, imm_se⟩

/-- R72: kind `IMM_U`, `zext_32(imm)`. -/
def opImmU (imm : BitVec 16) : Operand := ⟨.IMM_U, imm.setWidth 32⟩

/-- R72: kind `BROFF`, the pattern `imm_se`, unscaled. -/
def opBroff (imm_se : BitVec 32) : Operand := ⟨.BROFF, imm_se⟩

/-- R72: kind `JTARGET`, `zext_32(imm_jump)`, unscaled. -/
def opJtarget (imm_jump : BitVec 26) : Operand := ⟨.JTARGET, imm_jump.setWidth 32⟩

/-- R72: kind `COFUN`, `zext_32(w[24:0])`. -/
def opCofun (cofun : BitVec 25) : Operand := ⟨.COFUN, cofun.setWidth 32⟩

/-- R81: `F_UNK`: no operands; the text shows the whole word. -/
def renderUnk (w : Word) : Rendering := ⟨.F_UNK, [], "unknown 0x".toList ++ hex8 w⟩

/-- R82: `F_NONE`. -/
def renderNone (mn : Text) : Rendering := ⟨.F_NONE, [], line mn []⟩

/-- R83: `F_D_S_T`. -/
def renderDST (nm : RegNaming) (mn : Text) (d s t : RegIdx) : Rendering :=
  ⟨.F_D_S_T, [opGpr d, opGpr s, opGpr t], line mn [gpr nm d, gpr nm s, gpr nm t]⟩

/-- R84: `F_D_T_SH`. -/
def renderDTSh (nm : RegNaming) (mn : Text) (d t : RegIdx) (shift : BitVec 5) : Rendering :=
  ⟨.F_D_T_SH, [opGpr d, opGpr t, opShamt shift], line mn [gpr nm d, gpr nm t, dec shift.toNat]⟩

/-- R85: `F_D_T_S`: value, then amount. -/
def renderDTS (nm : RegNaming) (mn : Text) (d t s : RegIdx) : Rendering :=
  ⟨.F_D_T_S, [opGpr d, opGpr t, opGpr s], line mn [gpr nm d, gpr nm t, gpr nm s]⟩

/-- R86: `F_S`. -/
def renderS (nm : RegNaming) (mn : Text) (s : RegIdx) : Rendering :=
  ⟨.F_S, [opGpr s], line mn [gpr nm s]⟩

/-- R87: `F_D_S`: both operands are always written. -/
def renderDS (nm : RegNaming) (mn : Text) (d s : RegIdx) : Rendering :=
  ⟨.F_D_S, [opGpr d, opGpr s], line mn [gpr nm d, gpr nm s]⟩

/-- R88: `F_D`. -/
def renderD (nm : RegNaming) (mn : Text) (d : RegIdx) : Rendering :=
  ⟨.F_D, [opGpr d], line mn [gpr nm d]⟩

/-- R89: `F_S_T`. -/
def renderST (nm : RegNaming) (mn : Text) (s t : RegIdx) : Rendering :=
  ⟨.F_S_T, [opGpr s, opGpr t], line mn [gpr nm s, gpr nm t]⟩

/-- R90: `F_T_S_IS`: the immediate signed, in decimal. -/
def renderTSIs (nm : RegNaming) (mn : Text) (t s : RegIdx) (imm_se : BitVec 32) : Rendering :=
  ⟨.F_T_S_IS, [opGpr t, opGpr s, opImmS imm_se], line mn [gpr nm t, gpr nm s, sdec imm_se]⟩

/-- R91: `F_T_S_IU`: the immediate unsigned, in hexadecimal. -/
def renderTSIu (nm : RegNaming) (mn : Text) (t s : RegIdx) (imm : BitVec 16) : Rendering :=
  ⟨.F_T_S_IU, [opGpr t, opGpr s, opImmU imm], line mn [gpr nm t, gpr nm s, hex imm.toNat]⟩

/-- R92: `F_T_IU`: the `s` field is not shown. -/
def renderTIu (nm : RegNaming) (mn : Text) (t : RegIdx) (imm : BitVec 16) : Rendering :=
  ⟨.F_T_IU, [opGpr t, opImmU imm], line mn [gpr nm t, hex imm.toNat]⟩

/-- R93: `F_S_T_BR`. -/
def renderSTBr (nm : RegNaming) (mn : Text) (s t : RegIdx) (imm_se : BitVec 32) : Rendering :=
  ⟨.F_S_T_BR, [opGpr s, opGpr t, opBroff imm_se], line mn [gpr nm s, gpr nm t, sdecInt (broff imm_se)]⟩

/-- R94: `F_S_BR`. -/
def renderSBr (nm : RegNaming) (mn : Text) (s : RegIdx) (imm_se : BitVec 32) : Rendering :=
  ⟨.F_S_BR, [opGpr s, opBroff imm_se], line mn [gpr nm s, sdecInt (broff imm_se)]⟩

/-- R95: `F_BR`. -/
def renderBr (mn : Text) (imm_se : BitVec 32) : Rendering :=
  ⟨.F_BR, [opBroff imm_se], line mn [sdecInt (broff imm_se)]⟩

/-- R96: `F_JT`. -/
def renderJt (mn : Text) (imm_jump : BitVec 26) : Rendering :=
  ⟨.F_JT, [opJtarget imm_jump], line mn [hex (jtarget imm_jump)]⟩

/-- R97: `F_T_MEM`: register, displacement, base (R71). -/
def renderTMem (nm : RegNaming) (mn : Text) (t : RegIdx) (imm_se : BitVec 32) (s : RegIdx) : Rendering :=
  ⟨.F_T_MEM, [opGpr t, opImmS imm_se, opGpr s], line mn [gpr nm t, memOperand (sdec imm_se) (gpr nm s)]⟩

/-- R98: `F_CT_MEM`: `t` names a coprocessor data register. -/
def renderCtMem (nm : RegNaming) (mn : Text) (copz : BitVec 2) (t : RegIdx) (imm_se : BitVec 32) (s : RegIdx) :
    Rendering :=
  ⟨.F_CT_MEM, [opCprD t, opImmS imm_se, opGpr s], line mn [cprd copz t, memOperand (sdec imm_se) (gpr nm s)]⟩

/-- R99: `F_T_CD`: the general register first, for both directions. -/
def renderTCd (nm : RegNaming) (mn : Text) (copz : BitVec 2) (t d : RegIdx) : Rendering :=
  ⟨.F_T_CD, [opGpr t, opCprD d], line mn [gpr nm t, cprd copz d]⟩

/-- R100: `F_T_CC`. -/
def renderTCc (nm : RegNaming) (mn : Text) (copz : BitVec 2) (t d : RegIdx) : Rendering :=
  ⟨.F_T_CC, [opGpr t, opCprC d], line mn [gpr nm t, cprc copz d]⟩

/-- R101: `F_COFUN`. -/
def renderCofun (mn : Text) (cofun : BitVec 25) : Rendering :=
  ⟨.F_COFUN, [opCofun cofun], line mn [hex cofun.toNat]⟩

end Sys2Proof.Machine
end

