-- ==== Sys2Proof/Machine/Ops.lean ====
section
/-! DEFINITION. The shared operations of a step: the host presents a word, the extractor drives its outputs, and a
renderer's output, or the unknown outcome, goes to the decode outputs.

There is no operation that takes an exception and none that returns from one: the block raises none, saves nothing,
changes no mode and fetches no vector (60_exceptions.md R216, R221, R222). The one outcome beside a recognised
instruction is `State.driveUnknown`, an ordinary next state (47_unknown.md R209). -/

namespace Sys2Proof.Machine

/-- The word the next evaluation decodes: the host's next one, or the one still on `instr_i` when the host has no
other (60_exceptions.md R235: the host drives `instr_i` at every instant). -/
def State.nextWord (st : State) : Word :=
  match st.pending with
  | [] => st.instr_i
  | w :: _ => w

/-- The host drives the next word on `instr_i` (60_exceptions.md R235). -/
def State.present (st : State) : State :=
  { st with instr_i := st.nextWord, pending := st.pending.tail }

/-- The ten field values of a word (40_field_extract.md R51 to R61). -/
def fieldsOf (w : Word) : Fields where
  function := Extract.function w
  cop_opcode := Extract.cop_opcode w
  s := Extract.s w
  t := Extract.t w
  d := Extract.d w
  shift := Extract.shift w
  subfunction := Extract.subfunction w
  imm := Extract.imm w
  imm_se := Extract.imm_se w
  imm_jump := Extract.imm_jump w

/-- The outputs that are wiring of `instr_i`, whatever the word spells: the ten fields (40_field_extract.md R50),
`copz_o` (41_dispatch_render.md R69) and `nop_o` (R102). -/
def State.extract (st : State) : State :=
  { st with
    fields := fieldsOf st.instr_i
    decoded := { st.decoded with copz := Extract.copz st.instr_i, nop := nopFlag st.instr_i } }

/-- R103: the text mux: `nop` when `nop_o` = 1, else the text of the renderer. -/
def muxText (nop : Bool) (text : Text) : Text := if nop then "nop".toList else text

/-- A row matched: the dispatch mux passes on the output of its renderer (41_dispatch_render.md R65, R70, R103). -/
def State.drive (st : State) (op : Op) (shape : Shape) (r : Rendering) : State :=
  { st with
    decoded :=
      { st.decoded with
        known := true
        op := op
        shape := shape
        fmt := r.fmt
        operands := r.operands
        text := muxText st.decoded.nop r.text } }

/-- No row matched: the unknown-instruction outcome (47_unknown.md R208), a normal result that changes nothing else. -/
def State.driveUnknown (st : State) : State :=
  { st with
    decoded :=
      { st.decoded with
        known := false
        op := .UNKNOWN
        shape := .NONE
        fmt := (renderUnk st.instr_i).fmt
        operands := (renderUnk st.instr_i).operands
        text := (renderUnk st.instr_i).text } }

end Sys2Proof.Machine
end

