-- ==== Sys2Proof/Machine/BranchJump.lean ====
section
/-! DEFINITION. The meanings of the branches and jumps (43_branch_jump.md): each is the arm of 41_dispatch_render.md
R65 that its rule writes out. A meaning names the row and selects its renderer; it raises no exception and touches no
register, memory or program counter, for the block has none (00_scope.md R4, R8; 60_exceptions.md R216). -/

namespace Sys2Proof.Machine

/-- R138 `bltz`: op code 29, shape `I`, renderer `F_S_BR`, operands `s`, `imm_se`. -/
def execBltz (s : RegIdx) (imm : BitVec 16) (st : State) : Host.Outcome State Fault Refusal :=
  .next (st.drive .bltz .I (renderSBr st.regNaming (Op.mnemonic .bltz) s (Extract.sext imm)))

/-- R139 `bgez`: op code 30, shape `I`, renderer `F_S_BR`, operands `s`, `imm_se`. -/
def execBgez (s : RegIdx) (imm : BitVec 16) (st : State) : Host.Outcome State Fault Refusal :=
  .next (st.drive .bgez .I (renderSBr st.regNaming (Op.mnemonic .bgez) s (Extract.sext imm)))

/-- R140 `bltzal`: op code 31, shape `I`, renderer `F_S_BR`, operands `s`, `imm_se`. -/
def execBltzal (s : RegIdx) (imm : BitVec 16) (st : State) : Host.Outcome State Fault Refusal :=
  .next (st.drive .bltzal .I (renderSBr st.regNaming (Op.mnemonic .bltzal) s (Extract.sext imm)))

/-- R141 `bgezal`: op code 32, shape `I`, renderer `F_S_BR`, operands `s`, `imm_se`. -/
def execBgezal (s : RegIdx) (imm : BitVec 16) (st : State) : Host.Outcome State Fault Refusal :=
  .next (st.drive .bgezal .I (renderSBr st.regNaming (Op.mnemonic .bgezal) s (Extract.sext imm)))

/-- R142 `j`: op code 33, shape `J`, renderer `F_JT`, operands `imm_jump`. -/
def execJ (imm_jump : BitVec 26) (st : State) : Host.Outcome State Fault Refusal :=
  .next (st.drive .j .J (renderJt (Op.mnemonic .j) imm_jump))

/-- R143 `jal`: op code 34, shape `J`, renderer `F_JT`, operands `imm_jump`. -/
def execJal (imm_jump : BitVec 26) (st : State) : Host.Outcome State Fault Refusal :=
  .next (st.drive .jal .J (renderJt (Op.mnemonic .jal) imm_jump))

/-- R144 `beq`: op code 35, shape `I`, renderer `F_S_T_BR`, operands `s`, `t`, `imm_se`. -/
def execBeq (s t : RegIdx) (imm : BitVec 16) (st : State) : Host.Outcome State Fault Refusal :=
  .next (st.drive .beq .I (renderSTBr st.regNaming (Op.mnemonic .beq) s t (Extract.sext imm)))

/-- R145 `bne`: op code 36, shape `I`, renderer `F_S_T_BR`, operands `s`, `t`, `imm_se`. -/
def execBne (s t : RegIdx) (imm : BitVec 16) (st : State) : Host.Outcome State Fault Refusal :=
  .next (st.drive .bne .I (renderSTBr st.regNaming (Op.mnemonic .bne) s t (Extract.sext imm)))

/-- R146 `blez`: op code 37, shape `I`, renderer `F_S_BR`, operands `s`, `imm_se`. -/
def execBlez (s : RegIdx) (imm : BitVec 16) (st : State) : Host.Outcome State Fault Refusal :=
  .next (st.drive .blez .I (renderSBr st.regNaming (Op.mnemonic .blez) s (Extract.sext imm)))

/-- R147 `bgtz`: op code 38, shape `I`, renderer `F_S_BR`, operands `s`, `imm_se`. -/
def execBgtz (s : RegIdx) (imm : BitVec 16) (st : State) : Host.Outcome State Fault Refusal :=
  .next (st.drive .bgtz .I (renderSBr st.regNaming (Op.mnemonic .bgtz) s (Extract.sext imm)))

end Sys2Proof.Machine
end

