-- ==== Sys2Proof/Machine/Coprocessor.lean ====
section
/-! DEFINITION. The meanings of the coprocessor instructions (46_coprocessor.md): each is the arm of
41_dispatch_render.md R65 that its rule writes out. A meaning names the row and selects its renderer; it raises no
exception and touches no register, memory or program counter, for the block has none (00_scope.md R4, R8;
60_exceptions.md R216). -/

namespace Sys2Proof.Machine

/-- R176 `mfc0`: op code 67, shape `COP`, renderer `F_T_CD`, operands `t`, `d`. -/
def execMfc0 (t d : RegIdx) (st : State) : Host.Outcome State Fault Refusal :=
  .next (st.drive .mfc0 .COP (renderTCd st.regNaming (Op.mnemonic .mfc0) st.decoded.copz t d))

/-- R177 `mfc1`: op code 68, shape `COP`, renderer `F_T_CD`, operands `t`, `d`. -/
def execMfc1 (t d : RegIdx) (st : State) : Host.Outcome State Fault Refusal :=
  .next (st.drive .mfc1 .COP (renderTCd st.regNaming (Op.mnemonic .mfc1) st.decoded.copz t d))

/-- R178 `mfc2`: op code 69, shape `COP`, renderer `F_T_CD`, operands `t`, `d`. -/
def execMfc2 (t d : RegIdx) (st : State) : Host.Outcome State Fault Refusal :=
  .next (st.drive .mfc2 .COP (renderTCd st.regNaming (Op.mnemonic .mfc2) st.decoded.copz t d))

/-- R179 `mfc3`: op code 70, shape `COP`, renderer `F_T_CD`, operands `t`, `d`. -/
def execMfc3 (t d : RegIdx) (st : State) : Host.Outcome State Fault Refusal :=
  .next (st.drive .mfc3 .COP (renderTCd st.regNaming (Op.mnemonic .mfc3) st.decoded.copz t d))

/-- R180 `cfc0`: op code 71, shape `COP`, renderer `F_T_CC`, operands `t`, `d`. -/
def execCfc0 (t d : RegIdx) (st : State) : Host.Outcome State Fault Refusal :=
  .next (st.drive .cfc0 .COP (renderTCc st.regNaming (Op.mnemonic .cfc0) st.decoded.copz t d))

/-- R181 `cfc1`: op code 72, shape `COP`, renderer `F_T_CC`, operands `t`, `d`. -/
def execCfc1 (t d : RegIdx) (st : State) : Host.Outcome State Fault Refusal :=
  .next (st.drive .cfc1 .COP (renderTCc st.regNaming (Op.mnemonic .cfc1) st.decoded.copz t d))

/-- R182 `cfc2`: op code 73, shape `COP`, renderer `F_T_CC`, operands `t`, `d`. -/
def execCfc2 (t d : RegIdx) (st : State) : Host.Outcome State Fault Refusal :=
  .next (st.drive .cfc2 .COP (renderTCc st.regNaming (Op.mnemonic .cfc2) st.decoded.copz t d))

/-- R183 `cfc3`: op code 74, shape `COP`, renderer `F_T_CC`, operands `t`, `d`. -/
def execCfc3 (t d : RegIdx) (st : State) : Host.Outcome State Fault Refusal :=
  .next (st.drive .cfc3 .COP (renderTCc st.regNaming (Op.mnemonic .cfc3) st.decoded.copz t d))

/-- R184 `mtc0`: op code 75, shape `COP`, renderer `F_T_CD`, operands `t`, `d`. -/
def execMtc0 (t d : RegIdx) (st : State) : Host.Outcome State Fault Refusal :=
  .next (st.drive .mtc0 .COP (renderTCd st.regNaming (Op.mnemonic .mtc0) st.decoded.copz t d))

/-- R185 `mtc1`: op code 76, shape `COP`, renderer `F_T_CD`, operands `t`, `d`. -/
def execMtc1 (t d : RegIdx) (st : State) : Host.Outcome State Fault Refusal :=
  .next (st.drive .mtc1 .COP (renderTCd st.regNaming (Op.mnemonic .mtc1) st.decoded.copz t d))

/-- R186 `mtc2`: op code 77, shape `COP`, renderer `F_T_CD`, operands `t`, `d`. -/
def execMtc2 (t d : RegIdx) (st : State) : Host.Outcome State Fault Refusal :=
  .next (st.drive .mtc2 .COP (renderTCd st.regNaming (Op.mnemonic .mtc2) st.decoded.copz t d))

/-- R187 `mtc3`: op code 78, shape `COP`, renderer `F_T_CD`, operands `t`, `d`. -/
def execMtc3 (t d : RegIdx) (st : State) : Host.Outcome State Fault Refusal :=
  .next (st.drive .mtc3 .COP (renderTCd st.regNaming (Op.mnemonic .mtc3) st.decoded.copz t d))

/-- R188 `ctc0`: op code 79, shape `COP`, renderer `F_T_CC`, operands `t`, `d`. -/
def execCtc0 (t d : RegIdx) (st : State) : Host.Outcome State Fault Refusal :=
  .next (st.drive .ctc0 .COP (renderTCc st.regNaming (Op.mnemonic .ctc0) st.decoded.copz t d))

/-- R189 `ctc1`: op code 80, shape `COP`, renderer `F_T_CC`, operands `t`, `d`. -/
def execCtc1 (t d : RegIdx) (st : State) : Host.Outcome State Fault Refusal :=
  .next (st.drive .ctc1 .COP (renderTCc st.regNaming (Op.mnemonic .ctc1) st.decoded.copz t d))

/-- R190 `ctc2`: op code 81, shape `COP`, renderer `F_T_CC`, operands `t`, `d`. -/
def execCtc2 (t d : RegIdx) (st : State) : Host.Outcome State Fault Refusal :=
  .next (st.drive .ctc2 .COP (renderTCc st.regNaming (Op.mnemonic .ctc2) st.decoded.copz t d))

/-- R191 `ctc3`: op code 82, shape `COP`, renderer `F_T_CC`, operands `t`, `d`. -/
def execCtc3 (t d : RegIdx) (st : State) : Host.Outcome State Fault Refusal :=
  .next (st.drive .ctc3 .COP (renderTCc st.regNaming (Op.mnemonic .ctc3) st.decoded.copz t d))

/-- R192 `bc0f`: op code 83, shape `COP`, renderer `F_BR`, operands `imm_se`. -/
def execBc0f (imm : BitVec 16) (st : State) : Host.Outcome State Fault Refusal :=
  .next (st.drive .bc0f .COP (renderBr (Op.mnemonic .bc0f) (Extract.sext imm)))

/-- R193 `bc1f`: op code 84, shape `COP`, renderer `F_BR`, operands `imm_se`. -/
def execBc1f (imm : BitVec 16) (st : State) : Host.Outcome State Fault Refusal :=
  .next (st.drive .bc1f .COP (renderBr (Op.mnemonic .bc1f) (Extract.sext imm)))

/-- R194 `bc2f`: op code 85, shape `COP`, renderer `F_BR`, operands `imm_se`. -/
def execBc2f (imm : BitVec 16) (st : State) : Host.Outcome State Fault Refusal :=
  .next (st.drive .bc2f .COP (renderBr (Op.mnemonic .bc2f) (Extract.sext imm)))

/-- R195 `bc3f`: op code 86, shape `COP`, renderer `F_BR`, operands `imm_se`. -/
def execBc3f (imm : BitVec 16) (st : State) : Host.Outcome State Fault Refusal :=
  .next (st.drive .bc3f .COP (renderBr (Op.mnemonic .bc3f) (Extract.sext imm)))

/-- R196 `bc0t`: op code 87, shape `COP`, renderer `F_BR`, operands `imm_se`. -/
def execBc0t (imm : BitVec 16) (st : State) : Host.Outcome State Fault Refusal :=
  .next (st.drive .bc0t .COP (renderBr (Op.mnemonic .bc0t) (Extract.sext imm)))

/-- R197 `bc1t`: op code 88, shape `COP`, renderer `F_BR`, operands `imm_se`. -/
def execBc1t (imm : BitVec 16) (st : State) : Host.Outcome State Fault Refusal :=
  .next (st.drive .bc1t .COP (renderBr (Op.mnemonic .bc1t) (Extract.sext imm)))

/-- R198 `bc2t`: op code 89, shape `COP`, renderer `F_BR`, operands `imm_se`. -/
def execBc2t (imm : BitVec 16) (st : State) : Host.Outcome State Fault Refusal :=
  .next (st.drive .bc2t .COP (renderBr (Op.mnemonic .bc2t) (Extract.sext imm)))

/-- R199 `bc3t`: op code 90, shape `COP`, renderer `F_BR`, operands `imm_se`. -/
def execBc3t (imm : BitVec 16) (st : State) : Host.Outcome State Fault Refusal :=
  .next (st.drive .bc3t .COP (renderBr (Op.mnemonic .bc3t) (Extract.sext imm)))

/-- R200 `tlbr`: op code 91, shape `COP`, renderer `F_NONE`, operands none. -/
def execTlbr (st : State) : Host.Outcome State Fault Refusal :=
  .next (st.drive .tlbr .COP (renderNone (Op.mnemonic .tlbr)))

/-- R201 `tlbwi`: op code 92, shape `COP`, renderer `F_NONE`, operands none. -/
def execTlbwi (st : State) : Host.Outcome State Fault Refusal :=
  .next (st.drive .tlbwi .COP (renderNone (Op.mnemonic .tlbwi)))

/-- R202 `tlbwr`: op code 93, shape `COP`, renderer `F_NONE`, operands none. -/
def execTlbwr (st : State) : Host.Outcome State Fault Refusal :=
  .next (st.drive .tlbwr .COP (renderNone (Op.mnemonic .tlbwr)))

/-- R203 `tlbp`: op code 94, shape `COP`, renderer `F_NONE`, operands none. -/
def execTlbp (st : State) : Host.Outcome State Fault Refusal :=
  .next (st.drive .tlbp .COP (renderNone (Op.mnemonic .tlbp)))

/-- R204 `rfe`: op code 95, shape `COP`, renderer `F_NONE`, operands none. -/
def execRfe (st : State) : Host.Outcome State Fault Refusal :=
  .next (st.drive .rfe .COP (renderNone (Op.mnemonic .rfe)))

/-- R205 `cop1`: op code 96, shape `COP`, renderer `F_COFUN`, operands `cofun`. -/
def execCop1 (cofun : BitVec 25) (st : State) : Host.Outcome State Fault Refusal :=
  .next (st.drive .cop1 .COP (renderCofun (Op.mnemonic .cop1) cofun))

/-- R206 `cop2`: op code 97, shape `COP`, renderer `F_COFUN`, operands `cofun`. -/
def execCop2 (cofun : BitVec 25) (st : State) : Host.Outcome State Fault Refusal :=
  .next (st.drive .cop2 .COP (renderCofun (Op.mnemonic .cop2) cofun))

/-- R207 `cop3`: op code 98, shape `COP`, renderer `F_COFUN`, operands `cofun`. -/
def execCop3 (cofun : BitVec 25) (st : State) : Host.Outcome State Fault Refusal :=
  .next (st.drive .cop3 .COP (renderCofun (Op.mnemonic .cop3) cofun))

end Sys2Proof.Machine
end

