-- ==== Sys2Proof/Machine/Immediate.lean ====
section
/-! DEFINITION. The meanings of the immediate arithmetic and logic (44_immediate.md): each is the arm of
41_dispatch_render.md R65 that its rule writes out. A meaning names the row and selects its renderer; it raises no
exception and touches no register, memory or program counter, for the block has none (00_scope.md R4, R8;
60_exceptions.md R216). -/

namespace Sys2Proof.Machine

/-- R148 `addi`: op code 39, shape `I`, renderer `F_T_S_IS`, operands `t`, `s`, `imm_se`. -/
def execAddi (t s : RegIdx) (imm : BitVec 16) (st : State) : Host.Outcome State Fault Refusal :=
  .next (st.drive .addi .I (renderTSIs st.regNaming (Op.mnemonic .addi) t s (Extract.sext imm)))

/-- R149 `addiu`: op code 40, shape `I`, renderer `F_T_S_IS`, operands `t`, `s`, `imm_se`. -/
def execAddiu (t s : RegIdx) (imm : BitVec 16) (st : State) : Host.Outcome State Fault Refusal :=
  .next (st.drive .addiu .I (renderTSIs st.regNaming (Op.mnemonic .addiu) t s (Extract.sext imm)))

/-- R150 `slti`: op code 41, shape `I`, renderer `F_T_S_IS`, operands `t`, `s`, `imm_se`. -/
def execSlti (t s : RegIdx) (imm : BitVec 16) (st : State) : Host.Outcome State Fault Refusal :=
  .next (st.drive .slti .I (renderTSIs st.regNaming (Op.mnemonic .slti) t s (Extract.sext imm)))

/-- R151 `sltiu`: op code 42, shape `I`, renderer `F_T_S_IS`, operands `t`, `s`, `imm_se`. -/
def execSltiu (t s : RegIdx) (imm : BitVec 16) (st : State) : Host.Outcome State Fault Refusal :=
  .next (st.drive .sltiu .I (renderTSIs st.regNaming (Op.mnemonic .sltiu) t s (Extract.sext imm)))

/-- R152 `andi`: op code 43, shape `I`, renderer `F_T_S_IU`, operands `t`, `s`, `imm`. -/
def execAndi (t s : RegIdx) (imm : BitVec 16) (st : State) : Host.Outcome State Fault Refusal :=
  .next (st.drive .andi .I (renderTSIu st.regNaming (Op.mnemonic .andi) t s imm))

/-- R153 `ori`: op code 44, shape `I`, renderer `F_T_S_IU`, operands `t`, `s`, `imm`. -/
def execOri (t s : RegIdx) (imm : BitVec 16) (st : State) : Host.Outcome State Fault Refusal :=
  .next (st.drive .ori .I (renderTSIu st.regNaming (Op.mnemonic .ori) t s imm))

/-- R154 `xori`: op code 45, shape `I`, renderer `F_T_S_IU`, operands `t`, `s`, `imm`. -/
def execXori (t s : RegIdx) (imm : BitVec 16) (st : State) : Host.Outcome State Fault Refusal :=
  .next (st.drive .xori .I (renderTSIu st.regNaming (Op.mnemonic .xori) t s imm))

/-- R155 `lui`: op code 46, shape `I`, renderer `F_T_IU`, operands `t`, `imm`. -/
def execLui (t : RegIdx) (imm : BitVec 16) (st : State) : Host.Outcome State Fault Refusal :=
  .next (st.drive .lui .I (renderTIu st.regNaming (Op.mnemonic .lui) t imm))

end Sys2Proof.Machine
end

