-- ==== Sys2Proof/Machine/LoadStore.lean ====
section
/-! DEFINITION. The meanings of the loads and stores (45_load_store.md): each is the arm of 41_dispatch_render.md R65
that its rule writes out. A meaning names the row and selects its renderer; it raises no exception and touches no
register, memory or program counter, for the block has none (00_scope.md R4, R8; 60_exceptions.md R216). -/

namespace Sys2Proof.Machine

/-- R156 `lb`: op code 47, shape `I`, renderer `F_T_MEM`, operands `t`, `imm_se`, `s`. -/
def execLb (t : RegIdx) (imm : BitVec 16) (s : RegIdx) (st : State) : Host.Outcome State Fault Refusal :=
  .next (st.drive .lb .I (renderTMem st.regNaming (Op.mnemonic .lb) t (Extract.sext imm) s))

/-- R157 `lh`: op code 48, shape `I`, renderer `F_T_MEM`, operands `t`, `imm_se`, `s`. -/
def execLh (t : RegIdx) (imm : BitVec 16) (s : RegIdx) (st : State) : Host.Outcome State Fault Refusal :=
  .next (st.drive .lh .I (renderTMem st.regNaming (Op.mnemonic .lh) t (Extract.sext imm) s))

/-- R158 `lwl`: op code 49, shape `I`, renderer `F_T_MEM`, operands `t`, `imm_se`, `s`. -/
def execLwl (t : RegIdx) (imm : BitVec 16) (s : RegIdx) (st : State) : Host.Outcome State Fault Refusal :=
  .next (st.drive .lwl .I (renderTMem st.regNaming (Op.mnemonic .lwl) t (Extract.sext imm) s))

/-- R159 `lw`: op code 50, shape `I`, renderer `F_T_MEM`, operands `t`, `imm_se`, `s`. -/
def execLw (t : RegIdx) (imm : BitVec 16) (s : RegIdx) (st : State) : Host.Outcome State Fault Refusal :=
  .next (st.drive .lw .I (renderTMem st.regNaming (Op.mnemonic .lw) t (Extract.sext imm) s))

/-- R160 `lbu`: op code 51, shape `I`, renderer `F_T_MEM`, operands `t`, `imm_se`, `s`. -/
def execLbu (t : RegIdx) (imm : BitVec 16) (s : RegIdx) (st : State) : Host.Outcome State Fault Refusal :=
  .next (st.drive .lbu .I (renderTMem st.regNaming (Op.mnemonic .lbu) t (Extract.sext imm) s))

/-- R161 `lhu`: op code 52, shape `I`, renderer `F_T_MEM`, operands `t`, `imm_se`, `s`. -/
def execLhu (t : RegIdx) (imm : BitVec 16) (s : RegIdx) (st : State) : Host.Outcome State Fault Refusal :=
  .next (st.drive .lhu .I (renderTMem st.regNaming (Op.mnemonic .lhu) t (Extract.sext imm) s))

/-- R162 `lwr`: op code 53, shape `I`, renderer `F_T_MEM`, operands `t`, `imm_se`, `s`. -/
def execLwr (t : RegIdx) (imm : BitVec 16) (s : RegIdx) (st : State) : Host.Outcome State Fault Refusal :=
  .next (st.drive .lwr .I (renderTMem st.regNaming (Op.mnemonic .lwr) t (Extract.sext imm) s))

/-- R163 `sb`: op code 54, shape `I`, renderer `F_T_MEM`, operands `t`, `imm_se`, `s`. -/
def execSb (t : RegIdx) (imm : BitVec 16) (s : RegIdx) (st : State) : Host.Outcome State Fault Refusal :=
  .next (st.drive .sb .I (renderTMem st.regNaming (Op.mnemonic .sb) t (Extract.sext imm) s))

/-- R164 `sh`: op code 55, shape `I`, renderer `F_T_MEM`, operands `t`, `imm_se`, `s`. -/
def execSh (t : RegIdx) (imm : BitVec 16) (s : RegIdx) (st : State) : Host.Outcome State Fault Refusal :=
  .next (st.drive .sh .I (renderTMem st.regNaming (Op.mnemonic .sh) t (Extract.sext imm) s))

/-- R165 `swl`: op code 56, shape `I`, renderer `F_T_MEM`, operands `t`, `imm_se`, `s`. -/
def execSwl (t : RegIdx) (imm : BitVec 16) (s : RegIdx) (st : State) : Host.Outcome State Fault Refusal :=
  .next (st.drive .swl .I (renderTMem st.regNaming (Op.mnemonic .swl) t (Extract.sext imm) s))

/-- R166 `sw`: op code 57, shape `I`, renderer `F_T_MEM`, operands `t`, `imm_se`, `s`. -/
def execSw (t : RegIdx) (imm : BitVec 16) (s : RegIdx) (st : State) : Host.Outcome State Fault Refusal :=
  .next (st.drive .sw .I (renderTMem st.regNaming (Op.mnemonic .sw) t (Extract.sext imm) s))

/-- R167 `swr`: op code 58, shape `I`, renderer `F_T_MEM`, operands `t`, `imm_se`, `s`. -/
def execSwr (t : RegIdx) (imm : BitVec 16) (s : RegIdx) (st : State) : Host.Outcome State Fault Refusal :=
  .next (st.drive .swr .I (renderTMem st.regNaming (Op.mnemonic .swr) t (Extract.sext imm) s))

/-- R168 `lwc0`: op code 59, shape `I`, renderer `F_CT_MEM`, operands `t`, `imm_se`, `s`. -/
def execLwc0 (t : RegIdx) (imm : BitVec 16) (s : RegIdx) (st : State) : Host.Outcome State Fault Refusal :=
  .next (st.drive .lwc0 .I (renderCtMem st.regNaming (Op.mnemonic .lwc0) st.decoded.copz t (Extract.sext imm) s))

/-- R169 `lwc1`: op code 60, shape `I`, renderer `F_CT_MEM`, operands `t`, `imm_se`, `s`. -/
def execLwc1 (t : RegIdx) (imm : BitVec 16) (s : RegIdx) (st : State) : Host.Outcome State Fault Refusal :=
  .next (st.drive .lwc1 .I (renderCtMem st.regNaming (Op.mnemonic .lwc1) st.decoded.copz t (Extract.sext imm) s))

/-- R170 `lwc2`: op code 61, shape `I`, renderer `F_CT_MEM`, operands `t`, `imm_se`, `s`. -/
def execLwc2 (t : RegIdx) (imm : BitVec 16) (s : RegIdx) (st : State) : Host.Outcome State Fault Refusal :=
  .next (st.drive .lwc2 .I (renderCtMem st.regNaming (Op.mnemonic .lwc2) st.decoded.copz t (Extract.sext imm) s))

/-- R171 `lwc3`: op code 62, shape `I`, renderer `F_CT_MEM`, operands `t`, `imm_se`, `s`. -/
def execLwc3 (t : RegIdx) (imm : BitVec 16) (s : RegIdx) (st : State) : Host.Outcome State Fault Refusal :=
  .next (st.drive .lwc3 .I (renderCtMem st.regNaming (Op.mnemonic .lwc3) st.decoded.copz t (Extract.sext imm) s))

/-- R172 `swc0`: op code 63, shape `I`, renderer `F_CT_MEM`, operands `t`, `imm_se`, `s`. -/
def execSwc0 (t : RegIdx) (imm : BitVec 16) (s : RegIdx) (st : State) : Host.Outcome State Fault Refusal :=
  .next (st.drive .swc0 .I (renderCtMem st.regNaming (Op.mnemonic .swc0) st.decoded.copz t (Extract.sext imm) s))

/-- R173 `swc1`: op code 64, shape `I`, renderer `F_CT_MEM`, operands `t`, `imm_se`, `s`. -/
def execSwc1 (t : RegIdx) (imm : BitVec 16) (s : RegIdx) (st : State) : Host.Outcome State Fault Refusal :=
  .next (st.drive .swc1 .I (renderCtMem st.regNaming (Op.mnemonic .swc1) st.decoded.copz t (Extract.sext imm) s))

/-- R174 `swc2`: op code 65, shape `I`, renderer `F_CT_MEM`, operands `t`, `imm_se`, `s`. -/
def execSwc2 (t : RegIdx) (imm : BitVec 16) (s : RegIdx) (st : State) : Host.Outcome State Fault Refusal :=
  .next (st.drive .swc2 .I (renderCtMem st.regNaming (Op.mnemonic .swc2) st.decoded.copz t (Extract.sext imm) s))

/-- R175 `swc3`: op code 66, shape `I`, renderer `F_CT_MEM`, operands `t`, `imm_se`, `s`. -/
def execSwc3 (t : RegIdx) (imm : BitVec 16) (s : RegIdx) (st : State) : Host.Outcome State Fault Refusal :=
  .next (st.drive .swc3 .I (renderCtMem st.regNaming (Op.mnemonic .swc3) st.decoded.copz t (Extract.sext imm) s))

end Sys2Proof.Machine
end

