-- ==== Sys2Proof/Machine/Special.lean ====
section
/-! DEFINITION. The meanings of the register-register family, `function` = 0x00 (42_special.md): each is the arm of
41_dispatch_render.md R65 that its rule writes out. A meaning names the row and selects its renderer; it raises no
exception and touches no register, memory or program counter, for the block has none (00_scope.md R4, R8;
60_exceptions.md R216). -/

namespace Sys2Proof.Machine

/-- R110 `sll`: op code 1, shape `R`, renderer `F_D_T_SH`, operands `d`, `t`, `shift`. -/
def execSll (d t : RegIdx) (shift : BitVec 5) (st : State) : Host.Outcome State Fault Refusal :=
  .next (st.drive .sll .R (renderDTSh st.regNaming (Op.mnemonic .sll) d t shift))

/-- R111 `srl`: op code 2, shape `R`, renderer `F_D_T_SH`, operands `d`, `t`, `shift`. -/
def execSrl (d t : RegIdx) (shift : BitVec 5) (st : State) : Host.Outcome State Fault Refusal :=
  .next (st.drive .srl .R (renderDTSh st.regNaming (Op.mnemonic .srl) d t shift))

/-- R112 `sra`: op code 3, shape `R`, renderer `F_D_T_SH`, operands `d`, `t`, `shift`. -/
def execSra (d t : RegIdx) (shift : BitVec 5) (st : State) : Host.Outcome State Fault Refusal :=
  .next (st.drive .sra .R (renderDTSh st.regNaming (Op.mnemonic .sra) d t shift))

/-- R113 `sllv`: op code 4, shape `R`, renderer `F_D_T_S`, operands `d`, `t`, `s`. -/
def execSllv (d t s : RegIdx) (st : State) : Host.Outcome State Fault Refusal :=
  .next (st.drive .sllv .R (renderDTS st.regNaming (Op.mnemonic .sllv) d t s))

/-- R114 `srlv`: op code 5, shape `R`, renderer `F_D_T_S`, operands `d`, `t`, `s`. -/
def execSrlv (d t s : RegIdx) (st : State) : Host.Outcome State Fault Refusal :=
  .next (st.drive .srlv .R (renderDTS st.regNaming (Op.mnemonic .srlv) d t s))

/-- R115 `srav`: op code 6, shape `R`, renderer `F_D_T_S`, operands `d`, `t`, `s`. -/
def execSrav (d t s : RegIdx) (st : State) : Host.Outcome State Fault Refusal :=
  .next (st.drive .srav .R (renderDTS st.regNaming (Op.mnemonic .srav) d t s))

/-- R116 `jr`: op code 7, shape `R`, renderer `F_S`, operands `s`. -/
def execJr (s : RegIdx) (st : State) : Host.Outcome State Fault Refusal :=
  .next (st.drive .jr .R (renderS st.regNaming (Op.mnemonic .jr) s))

/-- R117 `jalr`: op code 8, shape `R`, renderer `F_D_S`, operands `d`, `s`. -/
def execJalr (d s : RegIdx) (st : State) : Host.Outcome State Fault Refusal :=
  .next (st.drive .jalr .R (renderDS st.regNaming (Op.mnemonic .jalr) d s))

/-- R118 `syscall`: op code 9, shape `R`, renderer `F_NONE`, operands none. -/
def execSyscall (st : State) : Host.Outcome State Fault Refusal :=
  .next (st.drive .syscall .R (renderNone (Op.mnemonic .syscall)))

/-- R119 `break`: op code 10, shape `R`, renderer `F_NONE`, operands none. -/
def execBreak (st : State) : Host.Outcome State Fault Refusal :=
  .next (st.drive .brk .R (renderNone (Op.mnemonic .brk)))

/-- R120 `mfhi`: op code 11, shape `R`, renderer `F_D`, operands `d`. -/
def execMfhi (d : RegIdx) (st : State) : Host.Outcome State Fault Refusal :=
  .next (st.drive .mfhi .R (renderD st.regNaming (Op.mnemonic .mfhi) d))

/-- R121 `mthi`: op code 12, shape `R`, renderer `F_S`, operands `s`. -/
def execMthi (s : RegIdx) (st : State) : Host.Outcome State Fault Refusal :=
  .next (st.drive .mthi .R (renderS st.regNaming (Op.mnemonic .mthi) s))

/-- R122 `mflo`: op code 13, shape `R`, renderer `F_D`, operands `d`. -/
def execMflo (d : RegIdx) (st : State) : Host.Outcome State Fault Refusal :=
  .next (st.drive .mflo .R (renderD st.regNaming (Op.mnemonic .mflo) d))

/-- R123 `mtlo`: op code 14, shape `R`, renderer `F_S`, operands `s`. -/
def execMtlo (s : RegIdx) (st : State) : Host.Outcome State Fault Refusal :=
  .next (st.drive .mtlo .R (renderS st.regNaming (Op.mnemonic .mtlo) s))

/-- R124 `mult`: op code 15, shape `R`, renderer `F_S_T`, operands `s`, `t`. -/
def execMult (s t : RegIdx) (st : State) : Host.Outcome State Fault Refusal :=
  .next (st.drive .mult .R (renderST st.regNaming (Op.mnemonic .mult) s t))

/-- R125 `multu`: op code 16, shape `R`, renderer `F_S_T`, operands `s`, `t`. -/
def execMultu (s t : RegIdx) (st : State) : Host.Outcome State Fault Refusal :=
  .next (st.drive .multu .R (renderST st.regNaming (Op.mnemonic .multu) s t))

/-- R126 `div`: op code 17, shape `R`, renderer `F_S_T`, operands `s`, `t`. -/
def execDiv (s t : RegIdx) (st : State) : Host.Outcome State Fault Refusal :=
  .next (st.drive .div .R (renderST st.regNaming (Op.mnemonic .div) s t))

/-- R127 `divu`: op code 18, shape `R`, renderer `F_S_T`, operands `s`, `t`. -/
def execDivu (s t : RegIdx) (st : State) : Host.Outcome State Fault Refusal :=
  .next (st.drive .divu .R (renderST st.regNaming (Op.mnemonic .divu) s t))

/-- R128 `add`: op code 19, shape `R`, renderer `F_D_S_T`, operands `d`, `s`, `t`. -/
def execAdd (d s t : RegIdx) (st : State) : Host.Outcome State Fault Refusal :=
  .next (st.drive .add .R (renderDST st.regNaming (Op.mnemonic .add) d s t))

/-- R129 `addu`: op code 20, shape `R`, renderer `F_D_S_T`, operands `d`, `s`, `t`. -/
def execAddu (d s t : RegIdx) (st : State) : Host.Outcome State Fault Refusal :=
  .next (st.drive .addu .R (renderDST st.regNaming (Op.mnemonic .addu) d s t))

/-- R130 `sub`: op code 21, shape `R`, renderer `F_D_S_T`, operands `d`, `s`, `t`. -/
def execSub (d s t : RegIdx) (st : State) : Host.Outcome State Fault Refusal :=
  .next (st.drive .sub .R (renderDST st.regNaming (Op.mnemonic .sub) d s t))

/-- R131 `subu`: op code 22, shape `R`, renderer `F_D_S_T`, operands `d`, `s`, `t`. -/
def execSubu (d s t : RegIdx) (st : State) : Host.Outcome State Fault Refusal :=
  .next (st.drive .subu .R (renderDST st.regNaming (Op.mnemonic .subu) d s t))

/-- R132 `and`: op code 23, shape `R`, renderer `F_D_S_T`, operands `d`, `s`, `t`. -/
def execAnd (d s t : RegIdx) (st : State) : Host.Outcome State Fault Refusal :=
  .next (st.drive .and .R (renderDST st.regNaming (Op.mnemonic .and) d s t))

/-- R133 `or`: op code 24, shape `R`, renderer `F_D_S_T`, operands `d`, `s`, `t`. -/
def execOr (d s t : RegIdx) (st : State) : Host.Outcome State Fault Refusal :=
  .next (st.drive .or .R (renderDST st.regNaming (Op.mnemonic .or) d s t))

/-- R134 `xor`: op code 25, shape `R`, renderer `F_D_S_T`, operands `d`, `s`, `t`. -/
def execXor (d s t : RegIdx) (st : State) : Host.Outcome State Fault Refusal :=
  .next (st.drive .xor .R (renderDST st.regNaming (Op.mnemonic .xor) d s t))

/-- R135 `nor`: op code 26, shape `R`, renderer `F_D_S_T`, operands `d`, `s`, `t`. -/
def execNor (d s t : RegIdx) (st : State) : Host.Outcome State Fault Refusal :=
  .next (st.drive .nor .R (renderDST st.regNaming (Op.mnemonic .nor) d s t))

/-- R136 `slt`: op code 27, shape `R`, renderer `F_D_S_T`, operands `d`, `s`, `t`. -/
def execSlt (d s t : RegIdx) (st : State) : Host.Outcome State Fault Refusal :=
  .next (st.drive .slt .R (renderDST st.regNaming (Op.mnemonic .slt) d s t))

/-- R137 `sltu`: op code 28, shape `R`, renderer `F_D_S_T`, operands `d`, `s`, `t`. -/
def execSltu (d s t : RegIdx) (st : State) : Host.Outcome State Fault Refusal :=
  .next (st.drive .sltu .R (renderDST st.regNaming (Op.mnemonic .sltu) d s t))

end Sys2Proof.Machine
end

