-- ==== Sys2Proof/Machine/Unknown.lean ====
section
/-! DEFINITION. The unknown-instruction outcome, the default arm of the classifier (47_unknown.md): a value, not a
fault. -/

namespace Sys2Proof.Machine

/-- R208: no row of `TABLE` matches: `known` = 0, `op` = `UNKNOWN`, `shape` = `NONE`, `fmt` = `F_UNK`, no operands, text
`unknown 0x` and the eight digits of the word. R209: no trap, no latch, no change of any later output. -/
def execUnknown (st : State) : Host.Outcome State Fault Refusal :=
  .next st.driveUnknown

end Sys2Proof.Machine
end

