-- ==== Sys2Proof/Machine/Step.lean ====
section
/-! DEFINITION. One step: one evaluation of the block on one word (decision D29; 70_reset_and_hazards.md R242, R248). The
host presents its next word, the extractor drives the outputs that are wiring, the classifier picks the row, and the
row's meaning, or the unknown outcome, drives the rest. -/

namespace Sys2Proof.Machine

/-- The host presents its next word and the extractor settles: the state in which the classified word is rendered. -/
def State.sample (st : State) : State := st.present.extract

/-- R65: the decode of the word now on `instr_i`. A word of no row is an ordinary outcome (47_unknown.md R209). -/
def step (st : State) : Host.Outcome State Fault Refusal :=
  match decode st.sample.instr_i with
  | .row i => exec i st.sample
  | .unknown _ => execUnknown st.sample

/-- The host will present the given opcode-table word before any other, so that the next step decodes it
(notes/assumptions/2.md). Nothing else changes. -/
def State.withFetchWord (s : State) (nbits w : Nat) : State :=
  { s with pending := tableWord nbits w :: s.pending }

end Sys2Proof.Machine
end

