-- ==== Sys2Proof/Machine/Block.lean ====
section
/-! DEFINITION. The block as one function of the word and the parameters, for ANY decode table that meets
30_encoding.md R46: the second formulation of 41_dispatch_render.md R65 ("the unique row with `(w AND row.mask) =
row.match`"), the mux over all 21 renderers (R70), the unknown outcome as the default (47_unknown.md R212), and a
batch of words (70_reset_and_hazards.md R248). `step` goes through the classifier and the meanings instead; that the
two agree is a statement for the provers. -/

namespace Sys2Proof.Machine

/-- R65: the row of the table that covers the word, if any. -/
def findRow (T : List Row) (w : Word) : Option Row := T.find? fun r => r.covers w

/-- R70: all renderers compute from the fields of the word; the mux selects the output of `fmt`. -/
def dispatchMux (nm : RegNaming) (fmt : Fmt) (mn : Text) (w : Word) : Rendering :=
  match fmt with
  | .F_UNK => renderUnk w
  | .F_NONE => renderNone mn
  | .F_D_S_T => renderDST nm mn (Extract.d w) (Extract.s w) (Extract.t w)
  | .F_D_T_SH => renderDTSh nm mn (Extract.d w) (Extract.t w) (Extract.shift w)
  | .F_D_T_S => renderDTS nm mn (Extract.d w) (Extract.t w) (Extract.s w)
  | .F_S => renderS nm mn (Extract.s w)
  | .F_D_S => renderDS nm mn (Extract.d w) (Extract.s w)
  | .F_D => renderD nm mn (Extract.d w)
  | .F_S_T => renderST nm mn (Extract.s w) (Extract.t w)
  | .F_T_S_IS => renderTSIs nm mn (Extract.t w) (Extract.s w) (Extract.imm_se w)
  | .F_T_S_IU => renderTSIu nm mn (Extract.t w) (Extract.s w) (Extract.imm w)
  | .F_T_IU => renderTIu nm mn (Extract.t w) (Extract.imm w)
  | .F_S_T_BR => renderSTBr nm mn (Extract.s w) (Extract.t w) (Extract.imm_se w)
  | .F_S_BR => renderSBr nm mn (Extract.s w) (Extract.imm_se w)
  | .F_BR => renderBr mn (Extract.imm_se w)
  | .F_JT => renderJt mn (Extract.imm_jump w)
  | .F_T_MEM => renderTMem nm mn (Extract.t w) (Extract.imm_se w) (Extract.s w)
  | .F_CT_MEM => renderCtMem nm mn (Extract.copz w) (Extract.t w) (Extract.imm_se w) (Extract.s w)
  | .F_T_CD => renderTCd nm mn (Extract.copz w) (Extract.t w) (Extract.d w)
  | .F_T_CC => renderTCc nm mn (Extract.copz w) (Extract.t w) (Extract.d w)
  | .F_COFUN => renderCofun mn (Extract.cofun w)

/-- R65, R103: the decoded instruction of a word under the rows `T` and the naming style `nm`. -/
def decodedOfRows (T : List Row) (nm : RegNaming) (w : Word) : Decoded :=
  match findRow T w with
  | some r =>
    let out := dispatchMux nm r.fmt r.op.mnemonic w
    { known := true, op := r.op, shape := r.shape, fmt := out.fmt, copz := Extract.copz w, nop := nopFlag w,
      operands := out.operands, text := muxText (nopFlag w) out.text }
  | none =>
    { known := false, op := .UNKNOWN, shape := .NONE, fmt := (renderUnk w).fmt, copz := Extract.copz w,
      nop := nopFlag w, operands := (renderUnk w).operands, text := muxText (nopFlag w) (renderUnk w).text }

/-- The block of an instance whose `TABLE` is `T`: a table that meets 30_encoding.md R46 (00_scope.md R5). -/
def decodedOf (T : DecodeTable) (nm : RegNaming) (w : Word) : Decoded := decodedOfRows T.rows nm w

/-- R248: a batch is a list of independent decodes: `map decode words`. -/
def decodeBatch (T : DecodeTable) (nm : RegNaming) (ws : List Word) : List Decoded := ws.map (decodedOf T nm)

end Sys2Proof.Machine
end

