-- ==== Sys2Proof/Machine/Ports.lean ====
section
/-! DEFINITION. The block at its hardware boundary: the numeric codes of the enumerated values (41_dispatch_render.md
R67, R68, R70, R72; decision D8), the operand slots (R71), the text port (R104), and the port list of R107, computed
from the values in `State`. -/

namespace Sys2Proof

/-- R67: the code of `op_o`: 0 for `UNKNOWN`, 1 to 98 for the rows in file order. -/
def Op.code (op : Op) : BitVec 7 :=
  match op with
  | .UNKNOWN => 0#7
  | .sll => 1#7
  | .srl => 2#7
  | .sra => 3#7
  | .sllv => 4#7
  | .srlv => 5#7
  | .srav => 6#7
  | .jr => 7#7
  | .jalr => 8#7
  | .syscall => 9#7
  | .brk => 10#7
  | .mfhi => 11#7
  | .mthi => 12#7
  | .mflo => 13#7
  | .mtlo => 14#7
  | .mult => 15#7
  | .multu => 16#7
  | .div => 17#7
  | .divu => 18#7
  | .add => 19#7
  | .addu => 20#7
  | .sub => 21#7
  | .subu => 22#7
  | .and => 23#7
  | .or => 24#7
  | .xor => 25#7
  | .nor => 26#7
  | .slt => 27#7
  | .sltu => 28#7
  | .bltz => 29#7
  | .bgez => 30#7
  | .bltzal => 31#7
  | .bgezal => 32#7
  | .j => 33#7
  | .jal => 34#7
  | .beq => 35#7
  | .bne => 36#7
  | .blez => 37#7
  | .bgtz => 38#7
  | .addi => 39#7
  | .addiu => 40#7
  | .slti => 41#7
  | .sltiu => 42#7
  | .andi => 43#7
  | .ori => 44#7
  | .xori => 45#7
  | .lui => 46#7
  | .lb => 47#7
  | .lh => 48#7
  | .lwl => 49#7
  | .lw => 50#7
  | .lbu => 51#7
  | .lhu => 52#7
  | .lwr => 53#7
  | .sb => 54#7
  | .sh => 55#7
  | .swl => 56#7
  | .sw => 57#7
  | .swr => 58#7
  | .lwc0 => 59#7
  | .lwc1 => 60#7
  | .lwc2 => 61#7
  | .lwc3 => 62#7
  | .swc0 => 63#7
  | .swc1 => 64#7
  | .swc2 => 65#7
  | .swc3 => 66#7
  | .mfc0 => 67#7
  | .mfc1 => 68#7
  | .mfc2 => 69#7
  | .mfc3 => 70#7
  | .cfc0 => 71#7
  | .cfc1 => 72#7
  | .cfc2 => 73#7
  | .cfc3 => 74#7
  | .mtc0 => 75#7
  | .mtc1 => 76#7
  | .mtc2 => 77#7
  | .mtc3 => 78#7
  | .ctc0 => 79#7
  | .ctc1 => 80#7
  | .ctc2 => 81#7
  | .ctc3 => 82#7
  | .bc0f => 83#7
  | .bc1f => 84#7
  | .bc2f => 85#7
  | .bc3f => 86#7
  | .bc0t => 87#7
  | .bc1t => 88#7
  | .bc2t => 89#7
  | .bc3t => 90#7
  | .tlbr => 91#7
  | .tlbwi => 92#7
  | .tlbwr => 93#7
  | .tlbp => 94#7
  | .rfe => 95#7
  | .cop1 => 96#7
  | .cop2 => 97#7
  | .cop3 => 98#7

/-- R68: the code of `shape_o`. -/
def Shape.code (shape : Shape) : BitVec 3 :=
  match shape with
  | .NONE => 0#3
  | .R => 1#3
  | .I => 2#3
  | .J => 3#3
  | .COP => 4#3

/-- R70: the code of `fmt_o`. -/
def Fmt.code (fmt : Fmt) : BitVec 5 :=
  match fmt with
  | .F_UNK => 0#5
  | .F_NONE => 1#5
  | .F_D_S_T => 2#5
  | .F_D_T_SH => 3#5
  | .F_D_T_S => 4#5
  | .F_S => 5#5
  | .F_D_S => 6#5
  | .F_D => 7#5
  | .F_S_T => 8#5
  | .F_T_S_IS => 9#5
  | .F_T_S_IU => 10#5
  | .F_T_IU => 11#5
  | .F_S_T_BR => 12#5
  | .F_S_BR => 13#5
  | .F_BR => 14#5
  | .F_JT => 15#5
  | .F_T_MEM => 16#5
  | .F_CT_MEM => 17#5
  | .F_T_CD => 18#5
  | .F_T_CC => 19#5
  | .F_COFUN => 20#5

/-- R72: the code of `opnd_kind_o`. -/
def OperandKind.code (kind : OperandKind) : BitVec 4 :=
  match kind with
  | .NONE => 0#4
  | .GPR => 1#4
  | .CPR_D => 2#4
  | .CPR_C => 3#4
  | .SHAMT => 4#4
  | .IMM_S => 5#4
  | .IMM_U => 6#4
  | .BROFF => 7#4
  | .JTARGET => 8#4
  | .COFUN => 9#4

namespace Machine

/-- R71: the descriptor of slot `k`; a slot at or beyond the count has kind `NONE` and value 0. -/
def slot (operands : List Operand) (k : Nat) : Operand := operands.getD k ⟨.NONE, 0#32⟩

/-- R104: the byte of the text port at index `k`; bytes at the length and above are 0x00. -/
def textByte (text : Text) (k : Nat) : Byte :=
  match text[k]? with
  | some c => BitVec.ofNat 8 c.toNat
  | none => 0x00#8

/-- The ports of the block, each with its width (41_dispatch_render.md R107). -/
structure Ports where
  instr_i       : BitVec 32
  function_o    : BitVec 6
  cop_opcode_o  : BitVec 5
  s_o           : BitVec 5
  t_o           : BitVec 5
  d_o           : BitVec 5
  shift_o       : BitVec 5
  subfunction_o : BitVec 6
  imm_o         : BitVec 16
  imm_se_o      : BitVec 32
  imm_jump_o    : BitVec 26
  known_o       : BitVec 1
  op_o          : BitVec 7
  shape_o       : BitVec 3
  copz_o        : BitVec 2
  fmt_o         : BitVec 5
  nop_o         : BitVec 1
  opnd_count_o  : BitVec 2
  opnd_kind_o   : Vector (BitVec 4) 3
  opnd_val_o    : Vector (BitVec 32) 3
  text_len_o    : BitVec 6
  text_o        : Vector (BitVec 8) 32
  deriving DecidableEq, Repr

/-- R107: the values on the ports. -/
def State.ports (st : State) : Ports where
  instr_i := st.instr_i
  function_o := st.fields.function
  cop_opcode_o := st.fields.cop_opcode
  s_o := st.fields.s
  t_o := st.fields.t
  d_o := st.fields.d
  shift_o := st.fields.shift
  subfunction_o := st.fields.subfunction
  imm_o := st.fields.imm
  imm_se_o := st.fields.imm_se
  imm_jump_o := st.fields.imm_jump
  known_o := BitVec.ofBool st.decoded.known
  op_o := st.decoded.op.code
  shape_o := st.decoded.shape.code
  copz_o := st.decoded.copz
  fmt_o := st.decoded.fmt.code
  nop_o := BitVec.ofBool st.decoded.nop
  opnd_count_o := BitVec.ofNat 2 st.decoded.operands.length
  opnd_kind_o := Vector.ofFn fun k => (slot st.decoded.operands k).kind.code
  opnd_val_o := Vector.ofFn fun k => (slot st.decoded.operands k).value
  text_len_o := BitVec.ofNat 6 st.decoded.text.length
  text_o := Vector.ofFn fun k => textByte st.decoded.text k

end Machine
end Sys2Proof
end

