-- ==== Sys2Proof/Safety.lean ====
section
/-! DEFINITION. The terms claims are stated in: when the outputs belong to the word on the port, what the rule of a row
shows of a word, the result the rule of a row gives, readings of a text back to the values it was made of, and a batch
run. A run is safe when it never stops; every step answers a next state (60_exceptions.md R218). -/

namespace Sys2Proof

open Extract

/-- The value of a digit, decimal or lowercase hexadecimal; none for another character (41_dispatch_render.md R75, R76). -/
def digitValue (c : Char) : Option Nat :=
  if '0' ≤ c ∧ c ≤ '9' then some (c.toNat - 48)
  else if 'a' ≤ c ∧ c ≤ 'f' then some (c.toNat - 87)
  else none

/-- The number a numeral spells, most significant digit first; none where a character is no digit of the base. -/
def readNumeral (base : Nat) (text : Text) : Option Nat :=
  text.foldl
    (fun acc c =>
      match acc, digitValue c with
      | some n, some v => if v < base then some (n * base + v) else none
      | _, _ => none)
    (some 0)

/-- "No leading zeros, `0` for zero" (R75, R76): the first digit is not 0, unless it is the only one. -/
def noLeadingZero (text : Text) : Prop := text ≠ [] ∧ (text.head? = some '0' → text = ['0'])

/-- The word is decided by these bits alone (30_encoding.md R40). -/
def examinedBits (w : Word) : Word :=
  if function w = 0x00#6 then 0xFC00003F#32
  else if function w = 0x01#6 then 0xFC1F0000#32
  else if 0x10#6 ≤ function w ∧ function w ≤ 0x13#6 then
    if cop_opcode w = 0x08#5 then 0xFFFF0000#32
    else if function w = 0x10#6 ∧ cop_opcode w = 0x10#5 then 0xFFE0003F#32
    else 0xFFE00000#32
  else 0xFC000000#32

/-- The rows that name the coprocessor `z` (41_dispatch_render.md R69): those of 46_coprocessor.md, and the coprocessor
loads and stores of 45_load_store.md. -/
def coprocessorOps (z : BitVec 2) : List Op :=
  match z with
  | 0#2 => [.mfc0, .cfc0, .mtc0, .ctc0, .bc0f, .bc0t, .tlbr, .tlbwi, .tlbwr, .tlbp, .rfe, .lwc0, .swc0]
  | 1#2 => [.mfc1, .cfc1, .mtc1, .ctc1, .bc1f, .bc1t, .cop1, .lwc1, .swc1]
  | 2#2 => [.mfc2, .cfc2, .mtc2, .ctc2, .bc2f, .bc2t, .cop2, .lwc2, .swc2]
  | 3#2 => [.mfc3, .cfc3, .mtc3, .ctc3, .bc3f, .bc3t, .cop3, .lwc3, .swc3]

/-- The operand list of an instruction: the kinds of its row (41_dispatch_render.md R81 to R101) with its own field values
(R72). -/
def Instr.operands (i : Instr) : List Operand :=
  match i with
  | .syscall | .brk | .tlbr | .tlbwi | .tlbwr | .tlbp | .rfe =>
    []
  | .add d s t | .addu d s t | .sub d s t | .subu d s t | .and d s t | .or d s t | .xor d s t
  | .nor d s t | .slt d s t | .sltu d s t =>
    [⟨.GPR, d.setWidth 32⟩, ⟨.GPR, s.setWidth 32⟩, ⟨.GPR, t.setWidth 32⟩]
  | .sll d t shift | .srl d t shift | .sra d t shift =>
    [⟨.GPR, d.setWidth 32⟩, ⟨.GPR, t.setWidth 32⟩, ⟨.SHAMT, shift.setWidth 32⟩]
  | .sllv d t s | .srlv d t s | .srav d t s =>
    [⟨.GPR, d.setWidth 32⟩, ⟨.GPR, t.setWidth 32⟩, ⟨.GPR, s.setWidth 32⟩]
  | .jr s | .mthi s | .mtlo s =>
    [⟨.GPR, s.setWidth 32⟩]
  | .jalr d s =>
    [⟨.GPR, d.setWidth 32⟩, ⟨.GPR, s.setWidth 32⟩]
  | .mfhi d | .mflo d =>
    [⟨.GPR, d.setWidth 32⟩]
  | .mult s t | .multu s t | .div s t | .divu s t =>
    [⟨.GPR, s.setWidth 32⟩, ⟨.GPR, t.setWidth 32⟩]
  | .addi t s imm | .addiu t s imm | .slti t s imm | .sltiu t s imm =>
    [⟨.GPR, t.setWidth 32⟩, ⟨.GPR, s.setWidth 32⟩, ⟨.IMM_S, imm.signExtend 32⟩]
  | .andi t s imm | .ori t s imm | .xori t s imm =>
    [⟨.GPR, t.setWidth 32⟩, ⟨.GPR, s.setWidth 32⟩, ⟨.IMM_U, imm.setWidth 32⟩]
  | .lui t imm =>
    [⟨.GPR, t.setWidth 32⟩, ⟨.IMM_U, imm.setWidth 32⟩]
  | .beq s t imm | .bne s t imm =>
    [⟨.GPR, s.setWidth 32⟩, ⟨.GPR, t.setWidth 32⟩, ⟨.BROFF, imm.signExtend 32⟩]
  | .bltz s imm | .bgez s imm | .bltzal s imm | .bgezal s imm | .blez s imm | .bgtz s imm =>
    [⟨.GPR, s.setWidth 32⟩, ⟨.BROFF, imm.signExtend 32⟩]
  | .bc0f imm | .bc1f imm | .bc2f imm | .bc3f imm | .bc0t imm | .bc1t imm | .bc2t imm | .bc3t imm =>
    [⟨.BROFF, imm.signExtend 32⟩]
  | .j target | .jal target =>
    [⟨.JTARGET, target.setWidth 32⟩]
  | .lb t imm s | .lh t imm s | .lwl t imm s | .lw t imm s | .lbu t imm s | .lhu t imm s
  | .lwr t imm s | .sb t imm s | .sh t imm s | .swl t imm s | .sw t imm s | .swr t imm s =>
    [⟨.GPR, t.setWidth 32⟩, ⟨.IMM_S, imm.signExtend 32⟩, ⟨.GPR, s.setWidth 32⟩]
  | .lwc0 t imm s | .lwc1 t imm s | .lwc2 t imm s | .lwc3 t imm s | .swc0 t imm s | .swc1 t imm s
  | .swc2 t imm s | .swc3 t imm s =>
    [⟨.CPR_D, t.setWidth 32⟩, ⟨.IMM_S, imm.signExtend 32⟩, ⟨.GPR, s.setWidth 32⟩]
  | .mfc0 t d | .mfc1 t d | .mfc2 t d | .mfc3 t d | .mtc0 t d | .mtc1 t d | .mtc2 t d | .mtc3 t d =>
    [⟨.GPR, t.setWidth 32⟩, ⟨.CPR_D, d.setWidth 32⟩]
  | .cfc0 t d | .cfc1 t d | .cfc2 t d | .cfc3 t d | .ctc0 t d | .ctc1 t d | .ctc2 t d | .ctc3 t d =>
    [⟨.GPR, t.setWidth 32⟩, ⟨.CPR_C, d.setWidth 32⟩]
  | .cop1 cofun | .cop2 cofun | .cop3 cofun =>
    [⟨.COFUN, cofun.setWidth 32⟩]

namespace Machine

/-- The outputs are those of the word on `instr_i`, under the table and the naming of the instance
(40_field_extract.md R50, 41_dispatch_render.md R65; 10_state.md R13). -/
abbrev State.Settled (st : State) : Prop :=
  st.fields = fieldsOf st.instr_i ∧ st.decoded = decodedOf mipsITable st.regNaming st.instr_i

/-! ## What the rule of a row shows, in the words of R82 to R101 -/

/-- The operand list and the text that the rule of a row writes out. -/
structure Shown where
  operands : List Operand
  text : Text
  deriving DecidableEq, Repr

/-- R82. -/
def shownNone (mn : String) : Shown := ⟨[], mn.toList⟩

/-- R83. -/
def shownDST (nm : RegNaming) (mn : String) (d s t : RegIdx) : Shown where
  operands := [⟨.GPR, d.setWidth 32⟩, ⟨.GPR, s.setWidth 32⟩, ⟨.GPR, t.setWidth 32⟩]
  text := mn.toList ++ " ".toList ++ gpr nm d ++ ", ".toList ++ gpr nm s ++ ", ".toList ++ gpr nm t

/-- R84. -/
def shownDTSh (nm : RegNaming) (mn : String) (d t : RegIdx) (shift : BitVec 5) : Shown where
  operands := [⟨.GPR, d.setWidth 32⟩, ⟨.GPR, t.setWidth 32⟩, ⟨.SHAMT, shift.setWidth 32⟩]
  text := mn.toList ++ " ".toList ++ gpr nm d ++ ", ".toList ++ gpr nm t ++ ", ".toList ++ dec shift.toNat

/-- R85. -/
def shownDTS (nm : RegNaming) (mn : String) (d t s : RegIdx) : Shown where
  operands := [⟨.GPR, d.setWidth 32⟩, ⟨.GPR, t.setWidth 32⟩, ⟨.GPR, s.setWidth 32⟩]
  text := mn.toList ++ " ".toList ++ gpr nm d ++ ", ".toList ++ gpr nm t ++ ", ".toList ++ gpr nm s

/-- R86 (with `s`) and R88 (with `d`). -/
def shownOne (nm : RegNaming) (mn : String) (n : RegIdx) : Shown where
  operands := [⟨.GPR, n.setWidth 32⟩]
  text := mn.toList ++ " ".toList ++ gpr nm n

/-- R87 (`d`, then `s`) and R89 (`s`, then `t`). -/
def shownTwo (nm : RegNaming) (mn : String) (m n : RegIdx) : Shown where
  operands := [⟨.GPR, m.setWidth 32⟩, ⟨.GPR, n.setWidth 32⟩]
  text := mn.toList ++ " ".toList ++ gpr nm m ++ ", ".toList ++ gpr nm n

/-- R90. -/
def shownTSIs (nm : RegNaming) (mn : String) (t s : RegIdx) (imm_se : BitVec 32) : Shown where
  operands := [⟨.GPR, t.setWidth 32⟩, ⟨.GPR, s.setWidth 32⟩, ⟨.IMM_S, imm_se⟩]
  text := mn.toList ++ " ".toList ++ gpr nm t ++ ", ".toList ++ gpr nm s ++ ", ".toList ++ sdec imm_se

/-- R91. -/
def shownTSIu (nm : RegNaming) (mn : String) (t s : RegIdx) (imm : BitVec 16) : Shown where
  operands := [⟨.GPR, t.setWidth 32⟩, ⟨.GPR, s.setWidth 32⟩, ⟨.IMM_U, imm.setWidth 32⟩]
  text := mn.toList ++ " ".toList ++ gpr nm t ++ ", ".toList ++ gpr nm s ++ ", ".toList ++ hex imm.toNat

/-- R92. -/
def shownTIu (nm : RegNaming) (mn : String) (t : RegIdx) (imm : BitVec 16) : Shown where
  operands := [⟨.GPR, t.setWidth 32⟩, ⟨.IMM_U, imm.setWidth 32⟩]
  text := mn.toList ++ " ".toList ++ gpr nm t ++ ", ".toList ++ hex imm.toNat

/-- R93, the displacement as R78 has it. -/
def shownSTBr (nm : RegNaming) (mn : String) (s t : RegIdx) (imm_se : BitVec 32) : Shown where
  operands := [⟨.GPR, s.setWidth 32⟩, ⟨.GPR, t.setWidth 32⟩, ⟨.BROFF, imm_se⟩]
  text := mn.toList ++ " ".toList ++ gpr nm s ++ ", ".toList ++ gpr nm t ++ ", ".toList ++ sdecInt (4 * imm_se.toInt)

/-- R94. -/
def shownSBr (nm : RegNaming) (mn : String) (s : RegIdx) (imm_se : BitVec 32) : Shown where
  operands := [⟨.GPR, s.setWidth 32⟩, ⟨.BROFF, imm_se⟩]
  text := mn.toList ++ " ".toList ++ gpr nm s ++ ", ".toList ++ sdecInt (4 * imm_se.toInt)

/-- R95. -/
def shownBr (mn : String) (imm_se : BitVec 32) : Shown where
  operands := [⟨.BROFF, imm_se⟩]
  text := mn.toList ++ " ".toList ++ sdecInt (4 * imm_se.toInt)

/-- R96, the target as R79 has it. -/
def shownJt (mn : String) (imm_jump : BitVec 26) : Shown where
  operands := [⟨.JTARGET, imm_jump.setWidth 32⟩]
  text := mn.toList ++ " ".toList ++ hex (4 * imm_jump.toNat)

/-- R97. -/
def shownTMem (nm : RegNaming) (mn : String) (t : RegIdx) (imm_se : BitVec 32) (s : RegIdx) : Shown where
  operands := [⟨.GPR, t.setWidth 32⟩, ⟨.IMM_S, imm_se⟩, ⟨.GPR, s.setWidth 32⟩]
  text := mn.toList ++ " ".toList ++ gpr nm t ++ ", ".toList ++ sdec imm_se ++ "(".toList ++ gpr nm s ++ ")".toList

/-- R98. -/
def shownCtMem (nm : RegNaming) (mn : String) (z : BitVec 2) (t : RegIdx) (imm_se : BitVec 32) (s : RegIdx) : Shown where
  operands := [⟨.CPR_D, t.setWidth 32⟩, ⟨.IMM_S, imm_se⟩, ⟨.GPR, s.setWidth 32⟩]
  text := mn.toList ++ " ".toList ++ cprd z t ++ ", ".toList ++ sdec imm_se ++ "(".toList ++ gpr nm s ++ ")".toList

/-- R99. -/
def shownTCd (nm : RegNaming) (mn : String) (z : BitVec 2) (t d : RegIdx) : Shown where
  operands := [⟨.GPR, t.setWidth 32⟩, ⟨.CPR_D, d.setWidth 32⟩]
  text := mn.toList ++ " ".toList ++ gpr nm t ++ ", ".toList ++ cprd z d

/-- R100. -/
def shownTCc (nm : RegNaming) (mn : String) (z : BitVec 2) (t d : RegIdx) : Shown where
  operands := [⟨.GPR, t.setWidth 32⟩, ⟨.CPR_C, d.setWidth 32⟩]
  text := mn.toList ++ " ".toList ++ gpr nm t ++ ", ".toList ++ cprc z d

/-- R101. -/
def shownCofun (mn : String) (cofun : BitVec 25) : Shown where
  operands := [⟨.COFUN, cofun.setWidth 32⟩]
  text := mn.toList ++ " ".toList ++ hex cofun.toNat

/-- `st` with the outputs a meaning drives: known, the row, its shape and renderer, what is shown, the text replaced by
`nop` where `nop_o` is 1 (41_dispatch_render.md R103). The naming, the port, the host's queue, the ten fields, `copz`
and `nop` are those of `st`. -/
def State.showing (st : State) (op : Op) (shape : Shape) (fmt : Fmt) (x : Shown) : State where
  regNaming := st.regNaming
  instr_i := st.instr_i
  pending := st.pending
  fields := st.fields
  decoded :=
    { known := true, op := op, shape := shape, fmt := fmt, copz := st.decoded.copz, nop := st.decoded.nop,
      operands := x.operands, text := if st.decoded.nop = true then "nop".toList else x.text }

/-- The rule of one row: its op code, its row's match and mask, its shape and the code of its renderer; whenever the
next word lies in the row, the step answers a next state whose outputs are those of the rule, the all-zero word
rendered `nop` (41_dispatch_render.md R102). -/
def RowRule (code : Nat) (op : Op) (matchBits mask : Word) (shape : Shape) (fmt : Fmt) (fmtCode : Nat)
    (shown : RegNaming → Word → Shown) : Prop :=
  op.code = BitVec.ofNat 7 code ∧ fmt.code = BitVec.ofNat 5 fmtCode ∧
  ∀ st : State, st.nextWord &&& mask = matchBits →
    step st = .next
      { regNaming := st.regNaming
        instr_i := st.nextWord
        pending := st.pending.tail
        fields := fieldsOf st.nextWord
        decoded :=
          { known := true, op := op, shape := shape, fmt := fmt, copz := Extract.copz st.nextWord,
            nop := decide (st.nextWord = 0#32), operands := (shown st.regNaming st.nextWord).operands,
            text := if st.nextWord = 0#32 then "nop".toList else (shown st.regNaming st.nextWord).text } }

/-! ## Runs -/

/-- A run over the host's queue: one step a word, the results in order (70_reset_and_hazards.md R248). A step that does
not answer a next state would end the list. -/
def runResults : Nat → State → List Decoded
  | 0, _ => []
  | k + 1, st =>
    match step st with
    | .next t => t.decoded :: runResults k t
    | .fault _ => []
    | .refused _ => []

end Machine
end Sys2Proof
end

