-- ==== Sys2Proof/Certificates/Slice0/Obligations.lean ====
section
/-! DEFINITION. The statements for the provers: one `def … : Prop` each, listed in OBLIGATIONS.json. They follow the
numbered rules of spec/ file by file: the extractor, the block as a function, the classifier, the renderers and the
text, every instruction (its completion and frame as `exec` runs it, and its rule from the word to all outputs), the
unknown outcome, and the encoder. -/

section

open Sys2Proof Sys2Proof.Machine

/-! ## The bit-field extractor (40_field_extract.md) -/

/-- R51 to R58 and R61: the formula of each accessor, at its port, for every word. -/
def Obligations.ExtractorFields : Prop :=
  ∀ st : State, ∃ t : State, step st = .next t ∧
    t.ports.function_o.toNat = st.nextWord.toNat / 2 ^ 26 ∧
    t.ports.cop_opcode_o.toNat = st.nextWord.toNat / 2 ^ 21 % 32 ∧
    t.ports.s_o.toNat = st.nextWord.toNat / 2 ^ 21 % 32 ∧
    t.ports.t_o.toNat = st.nextWord.toNat / 2 ^ 16 % 32 ∧
    t.ports.d_o.toNat = st.nextWord.toNat / 2 ^ 11 % 32 ∧
    t.ports.shift_o.toNat = st.nextWord.toNat / 2 ^ 6 % 32 ∧
    t.ports.subfunction_o.toNat = st.nextWord.toNat % 64 ∧
    t.ports.imm_o.toNat = st.nextWord.toNat % 65536 ∧
    t.ports.imm_jump_o.toNat = st.nextWord.toNat % 2 ^ 26

/-- R42, R59, R60: sign extension of the low 16 bits. -/
def Obligations.SignExtension : Prop :=
  ∀ st : State, ∃ t : State, step st = .next t ∧
    t.ports.imm_se_o.toNat =
      (if st.nextWord.getLsbD 15 = true then 0xFFFF0000 + st.nextWord.toNat % 65536
       else st.nextWord.toNat % 65536) ∧
    t.ports.imm_se_o.toNat % 65536 = t.ports.imm_o.toNat ∧
    (∀ i, 16 ≤ i → i < 32 → t.ports.imm_se_o.getLsbD i = st.nextWord.getLsbD 15) ∧
    t.ports.imm_se_o.toInt =
      (if t.ports.imm_o.toNat < 32768 then (t.ports.imm_o.toNat : Int) else (t.ports.imm_o.toNat : Int) - 65536) ∧
    t.ports.imm_se_o = (t.ports.imm_o.setWidth 32 ^^^ 0x8000#32) - 0x8000#32

/-- R24: the bounds of the field outputs, for every word. -/
def Obligations.FieldBounds : Prop :=
  ∀ st : State, ∃ t : State, step st = .next t ∧
    t.ports.function_o.toNat ≤ 63 ∧ t.ports.subfunction_o.toNat ≤ 63 ∧ t.ports.cop_opcode_o.toNat ≤ 31 ∧
    t.ports.s_o.toNat ≤ 31 ∧ t.ports.t_o.toNat ≤ 31 ∧ t.ports.d_o.toNat ≤ 31 ∧ t.ports.shift_o.toNat ≤ 31 ∧
    t.ports.imm_o.toNat ≤ 65535 ∧ t.ports.imm_jump_o.toNat ≤ 67108863 ∧
    (t.ports.imm_se_o.toNat ≤ 32767 ∨
      (0xFFFF8000 ≤ t.ports.imm_se_o.toNat ∧ t.ports.imm_se_o.toNat ≤ 0xFFFFFFFF)) ∧
    -32768 ≤ t.ports.imm_se_o.toInt ∧ t.ports.imm_se_o.toInt ≤ 32767

/-- R63: independence and aliasing of the accessors, its five checkable statements (a) to (e), of which the spec
marks (d) and (e) as its own inference ("derived: from 30_encoding.md rule R37 and rule R38"). -/
def Obligations.FieldIndependence : Prop :=
  (∀ v w : Word, Extract.function v = Extract.function w ↔ v &&& 0xFC000000#32 = w &&& 0xFC000000#32) ∧
    (∀ v w : Word, Extract.cop_opcode v = Extract.cop_opcode w ↔ v &&& 0x03E00000#32 = w &&& 0x03E00000#32) ∧
    (∀ v w : Word, Extract.s v = Extract.s w ↔ v &&& 0x03E00000#32 = w &&& 0x03E00000#32) ∧
    (∀ v w : Word, Extract.t v = Extract.t w ↔ v &&& 0x001F0000#32 = w &&& 0x001F0000#32) ∧
    (∀ v w : Word, Extract.d v = Extract.d w ↔ v &&& 0x0000F800#32 = w &&& 0x0000F800#32) ∧
    (∀ v w : Word, Extract.shift v = Extract.shift w ↔ v &&& 0x000007C0#32 = w &&& 0x000007C0#32) ∧
    (∀ v w : Word, Extract.subfunction v = Extract.subfunction w ↔ v &&& 0x0000003F#32 = w &&& 0x0000003F#32) ∧
    (∀ v w : Word, Extract.imm v = Extract.imm w ↔ v &&& 0x0000FFFF#32 = w &&& 0x0000FFFF#32) ∧
    (∀ v w : Word, Extract.imm_se v = Extract.imm_se w ↔ v &&& 0x0000FFFF#32 = w &&& 0x0000FFFF#32) ∧
    (∀ v w : Word, Extract.imm_jump v = Extract.imm_jump w ↔ v &&& 0x03FFFFFF#32 = w &&& 0x03FFFFFF#32) ∧
    (∀ x, ∃ w : Word, Extract.function w = x) ∧
    (∀ x, ∃ w : Word, Extract.cop_opcode w = x) ∧
    (∀ x, ∃ w : Word, Extract.s w = x) ∧
    (∀ x, ∃ w : Word, Extract.t w = x) ∧
    (∀ x, ∃ w : Word, Extract.d w = x) ∧
    (∀ x, ∃ w : Word, Extract.shift w = x) ∧
    (∀ x, ∃ w : Word, Extract.subfunction w = x) ∧
    (∀ x, ∃ w : Word, Extract.imm w = x) ∧
    (∀ x, ∃ w : Word, Extract.imm_jump w = x) ∧
    (∀ x : BitVec 16, ∃ w : Word, Extract.imm_se w = x.signExtend 32) ∧
    (∀ w : Word, ∃ x : BitVec 16, Extract.imm_se w = x.signExtend 32) ∧
    (∀ (f : BitVec 6) (a b c e : BitVec 5) (g : BitVec 6), ∃ w : Word, Extract.function w = f ∧ Extract.s w = a ∧
      Extract.t w = b ∧ Extract.d w = c ∧ Extract.shift w = e ∧ Extract.subfunction w = g) ∧
    (∀ (f : BitVec 6) (a b : BitVec 5) (i : BitVec 16), ∃ w : Word, Extract.function w = f ∧ Extract.s w = a ∧
      Extract.t w = b ∧ Extract.imm w = i) ∧
    (∀ (f : BitVec 6) (j : BitVec 26), ∃ w : Word, Extract.function w = f ∧ Extract.imm_jump w = j) ∧
    (∀ w : Word, Extract.s w = Extract.cop_opcode w ∧
      w.toNat = (Extract.function w).toNat * 2 ^ 26 + (Extract.s w).toNat * 2 ^ 21 + (Extract.t w).toNat * 2 ^ 16 +
        (Extract.d w).toNat * 2 ^ 11 + (Extract.shift w).toNat * 2 ^ 6 + (Extract.subfunction w).toNat ∧
      w.toNat = (Extract.function w).toNat * 2 ^ 26 + (Extract.imm_jump w).toNat ∧
      w.toNat = (Extract.function w).toNat * 2 ^ 26 + (Extract.s w).toNat * 2 ^ 21 + (Extract.t w).toNat * 2 ^ 16 +
        (Extract.imm w).toNat ∧
      (Extract.imm w).toNat = (Extract.d w).toNat * 2 ^ 11 + (Extract.shift w).toNat * 2 ^ 6 +
        (Extract.subfunction w).toNat ∧
      (Extract.imm_jump w).toNat = (Extract.s w).toNat * 2 ^ 21 + (Extract.t w).toNat * 2 ^ 16 +
        (Extract.imm w).toNat)

/-! ## No state: one step is one decode -/

/-- R65, both formulations: the classifier tree that `step` runs, and the match and mask columns that `decodedOf`
searches. -/
def Obligations.EveryStepDecodes : Prop :=
  ∀ st : State, step st = .next
    { regNaming := st.regNaming
      instr_i := st.nextWord
      pending := st.pending.tail
      fields := fieldsOf st.nextWord
      decoded := decodedOf mipsITable st.regNaming st.nextWord }

/-- Derived from R13 and R242: at every instant the outputs are the function of the present word. That `State` holds
output values is the model's form (notes/assumptions/1.md). -/
def Obligations.StepKeepsSettled : Prop :=
  ∀ st t : State, st.Settled → step st = .next t → t.Settled ∧ t.regNaming = st.regNaming

/-- R237 gives the outputs of the idle word, as its own inference ("derived: from 41_dispatch_render.md rule R102");
the idle word itself and the empty queue are the model's choice (notes/assumptions/3.md). -/
def Obligations.ResetSettled : Prop :=
  State.reset.instr_i = 0x00000000#32 ∧ State.reset.pending = [] ∧ State.reset.regNaming = .NUMERIC ∧
    State.reset.Settled ∧ State.reset.decoded.known = true ∧ State.reset.decoded.op = .sll ∧
    State.reset.decoded.nop = true ∧ State.reset.decoded.text = "nop".toList

/-- R216, R218: the block raises no exception and no input makes it stop. -/
def Obligations.NeverStops : Prop :=
  (∀ st : State, ∃ t : State, step st = .next t ∧
      ((t.decoded.known = true ∧ ∃ r ∈ mipsI, t.decoded.op = r.op) ∨
        (t.decoded.known = false ∧ t.decoded.op = .UNKNOWN))) ∧
    ∀ (i : Instr) (st : State), ∃ t : State, exec i st = .next t

/-- R13, R21: every output is a function of the present word and the parameters. -/
def Obligations.HistoryIndependence : Prop :=
  ∀ a b : State, a.regNaming = b.regNaming → a.nextWord = b.nextWord →
    ∃ t u : State, step a = .next t ∧ step b = .next u ∧ t.fields = u.fields ∧ t.decoded = u.decoded ∧
      t.ports = u.ports

/-- R209: the unknown outcome is a normal result that changes no later output. -/
def Obligations.UnknownLeavesNoTrace : Prop :=
  ∀ (st : State) (w v : Word) (rest : List Word), st.pending = w :: v :: rest → recognises mipsI w = false →
    ∃ t u : State, step st = .next t ∧ step t = .next u ∧ step { st with pending := v :: rest } = .next u

/-- R248: a batch is a list of independent runs, its result `map decode words`. -/
def Obligations.BatchRun : Prop :=
  ∀ st : State, runResults st.pending.length st = decodeBatch mipsITable st.regNaming st.pending

/-- Derived from R65 and decision D29: what a step adds around `exec` (notes/assumptions/4.md). -/
def Obligations.StepRunsDecoded : Prop :=
  ∀ st p : State,
    p = { regNaming := st.regNaming
          instr_i := st.nextWord
          pending := st.pending.tail
          fields := fieldsOf st.nextWord
          decoded :=
            { st.decoded with copz := Extract.copz st.nextWord, nop := decide (st.nextWord = 0x00000000#32) } } →
    (∀ i : Instr, decode st.nextWord = .row i → step st = exec i p) ∧
      ∀ w : Word, decode st.nextWord = .unknown w → step st = .next p.driveUnknown

/-! ## The classifier (41_dispatch_render.md section 1, 30_encoding.md) -/

/-- R67: the numbering of `op_o`. -/
def Obligations.OpCodes : Prop :=
  Op.UNKNOWN.code = 0#7 ∧ mipsI.map (fun r => r.op.code.toNat) = (List.range 98).map (· + 1) ∧
    (∀ a b : Op, a.code = b.code → a = b) ∧ ∀ a : Op, a.code.toNat ≤ 98

/-- R66: recognition; R65 and R67: op is the row; R220: at most one row matches, which rests on R44, a clause the
spec marks as its own inference ("derived: from the match and mask columns of opcode_table.json"). -/
def Obligations.KnownIffRow : Prop :=
  ∀ st : State, ∃ t : State, step st = .next t ∧
    (t.ports.known_o = 1#1 ↔ ∃ r ∈ mipsI, st.nextWord &&& r.mask = r.matchBits) ∧
    (t.ports.known_o = 0#1 ↔ ∀ r ∈ mipsI, st.nextWord &&& r.mask ≠ r.matchBits) ∧
    ∀ r ∈ mipsI, st.nextWord &&& r.mask = r.matchBits → t.decoded.op = r.op ∧
      ∀ q ∈ mipsI, st.nextWord &&& q.mask = q.matchBits → q = r

/-- R46 (a) to (g) ((h) is AnyTable), as `Table.admissible` reads it. The reading of (b) and (e) is the model's, not
the words of R46 (DEDUCED, notes/assumptions/14.md): a variable shift may show `s` in the place of `shift`,
`jalr` also `d`, and the coprocessor branch and operation forms are exempt from `t`, `d`. And R44, that the rows
are pairwise disjoint, which the spec marks as its own inference ("derived: from the match and mask columns of
opcode_table.json"). -/
def Obligations.TableAdmissible : Prop :=
  Table.admissible mipsI = true ∧ mipsI.length = 98

/-- R68: the encoding shape. -/
def Obligations.ShapeByFunction : Prop :=
  ∀ st : State, ∃ t : State, step st = .next t ∧
    (t.ports.shape_o = 0#3 ↔ t.ports.known_o = 0#1) ∧
    (t.ports.shape_o = 1#3 ↔ t.ports.known_o = 1#1 ∧ t.ports.function_o = 0x00#6) ∧
    (t.ports.shape_o = 2#3 ↔ t.ports.known_o = 1#1 ∧ t.ports.function_o.toNat ∈
      [0x01, 0x04, 0x05, 0x06, 0x07, 0x08, 0x09, 0x0A, 0x0B, 0x0C, 0x0D, 0x0E, 0x0F, 0x20, 0x21, 0x22, 0x23, 0x24,
       0x25, 0x26, 0x28, 0x29, 0x2A, 0x2B, 0x2E, 0x30, 0x31, 0x32, 0x33, 0x38, 0x39, 0x3A, 0x3B]) ∧
    (t.ports.shape_o = 3#3 ↔ t.ports.known_o = 1#1 ∧ t.ports.function_o.toNat ∈ [0x02, 0x03]) ∧
    (t.ports.shape_o = 4#3 ↔ t.ports.known_o = 1#1 ∧ t.ports.function_o.toNat ∈ [0x10, 0x11, 0x12, 0x13])

/-- R69: the coprocessor number. -/
def Obligations.CoprocessorNumber : Prop :=
  ∀ st : State, ∃ t : State, step st = .next t ∧
    t.ports.copz_o = st.nextWord.extractLsb' 26 2 ∧ t.ports.copz_o.toNat = t.ports.function_o.toNat % 4 ∧
    ∀ z : BitVec 2, t.decoded.op ∈ coprocessorOps z → t.ports.copz_o = z

/-- R40: a word with any value in an unexamined field classifies the same. -/
def Obligations.UnexaminedBits : Prop :=
  (∀ a b : State,
      a.nextWord &&& examinedBits a.nextWord = b.nextWord &&& examinedBits a.nextWord →
      ∃ t u : State, step a = .next t ∧ step b = .next u ∧ t.decoded.known = u.decoded.known ∧
        t.decoded.op = u.decoded.op ∧ t.decoded.shape = u.decoded.shape ∧ t.decoded.fmt = u.decoded.fmt) ∧
    ∀ r ∈ mipsI, if r.op ∈ [.cop1, .cop2, .cop3] then r.mask = 0xFE000000#32 else r.mask = examinedBits r.matchBits

/-- R212: the unknown outcome is the catch-all of any table, admissible or not. (The word 0 is a row of every
admissible table, R46 (c); under rows without it R102 and R103 would still make its text `nop`, so its text is
left out here.) -/
def Obligations.AnyTable : Prop :=
  (∀ (T : List Row) (nm : RegNaming) (w : Word), (∀ r ∈ T, w &&& r.mask ≠ r.matchBits) → w ≠ 0x00000000#32 →
      decodedOfRows T nm w =
        { known := false, op := .UNKNOWN, shape := .NONE, fmt := .F_UNK, copz := Extract.copz w, nop := false,
          operands := [], text := "unknown 0x".toList ++ hex8 w }) ∧
    (∀ (T : List Row) (nm : RegNaming) (w : Word), (∀ r ∈ T, w &&& r.mask ≠ r.matchBits) →
      (decodedOfRows T nm w).known = false ∧ (decodedOfRows T nm w).op = .UNKNOWN ∧ (decodedOfRows T nm w).operands = []) ∧
    ∀ (T U : List Row) (nm : RegNaming) (w : Word), (∀ r ∈ T, r ∈ U) → (decodedOfRows T nm w).known = true →
      (decodedOfRows U nm w).known = true

/-! ## The renderers, the operand list and the text (41_dispatch_render.md sections 2 to 5) -/

/-- R70, its table: codes and users of the renderers. -/
def Obligations.RendererUsage : Prop :=
  ∀ e ∈ ([
      (.F_UNK, 0, []),
      (.F_NONE, 1, [.syscall, .brk, .tlbr, .tlbwi, .tlbwr, .tlbp, .rfe]),
      (.F_D_S_T, 2, [.add, .addu, .sub, .subu, .and, .or, .xor, .nor, .slt, .sltu]),
      (.F_D_T_SH, 3, [.sll, .srl, .sra]),
      (.F_D_T_S, 4, [.sllv, .srlv, .srav]),
      (.F_S, 5, [.jr, .mthi, .mtlo]),
      (.F_D_S, 6, [.jalr]),
      (.F_D, 7, [.mfhi, .mflo]),
      (.F_S_T, 8, [.mult, .multu, .div, .divu]),
      (.F_T_S_IS, 9, [.addi, .addiu, .slti, .sltiu]),
      (.F_T_S_IU, 10, [.andi, .ori, .xori]),
      (.F_T_IU, 11, [.lui]),
      (.F_S_T_BR, 12, [.beq, .bne]),
      (.F_S_BR, 13, [.bltz, .bgez, .bltzal, .bgezal, .blez, .bgtz]),
      (.F_BR, 14, [.bc0f, .bc1f, .bc2f, .bc3f, .bc0t, .bc1t, .bc2t, .bc3t]),
      (.F_JT, 15, [.j, .jal]),
      (.F_T_MEM, 16, [.lb, .lh, .lwl, .lw, .lbu, .lhu, .lwr, .sb, .sh, .swl, .sw, .swr]),
      (.F_CT_MEM, 17, [.lwc0, .lwc1, .lwc2, .lwc3, .swc0, .swc1, .swc2, .swc3]),
      (.F_T_CD, 18, [.mfc0, .mfc1, .mfc2, .mfc3, .mtc0, .mtc1, .mtc2, .mtc3]),
      (.F_T_CC, 19, [.cfc0, .cfc1, .cfc2, .cfc3, .ctc0, .ctc1, .ctc2, .ctc3]),
      (.F_COFUN, 20, [.cop1, .cop2, .cop3])] : List (Fmt × Nat × List Op)),
    e.1.code.toNat = e.2.1 ∧ (mipsI.filter fun r => r.fmt = e.1).map (fun r => r.op) = e.2.2

/-- R71: the operand slots. (The order of the list is in the statements of the rows.) -/
def Obligations.OperandSlots : Prop :=
  ∀ st : State, ∃ t : State, step st = .next t ∧ t.decoded.operands.length ≤ 3 ∧
    t.ports.opnd_count_o.toNat = t.decoded.operands.length ∧
    ∀ (k : Nat) (hk : k < 3),
      (∀ h : k < t.decoded.operands.length,
        t.ports.opnd_kind_o[k] = t.decoded.operands[k].kind.code ∧
          t.ports.opnd_val_o[k] = t.decoded.operands[k].value) ∧
      (t.decoded.operands.length ≤ k → t.ports.opnd_kind_o[k] = 0#4 ∧ t.ports.opnd_val_o[k] = 0#32)

/-- R72: the kinds, their codes and the ranges of their values. -/
def Obligations.OperandRanges : Prop :=
  (∀ st t : State, step st = .next t → ∀ o ∈ t.decoded.operands,
      o.kind ≠ .NONE ∧
      (o.kind ∈ [.GPR, .CPR_D, .CPR_C, .SHAMT] → o.value.toNat ≤ 31) ∧
      (o.kind ∈ [.IMM_S, .BROFF] → o.value.toNat ≤ 0x7FFF ∨ 0xFFFF8000 ≤ o.value.toNat) ∧
      (o.kind = .IMM_U → o.value.toNat ≤ 0xFFFF) ∧ (o.kind = .JTARGET → o.value.toNat ≤ 0x3FFFFFF) ∧
      (o.kind = .COFUN → o.value.toNat ≤ 0x1FFFFFF)) ∧
    [OperandKind.NONE, .GPR, .CPR_D, .CPR_C, .SHAMT, .IMM_S, .IMM_U, .BROFF, .JTARGET, .COFUN].map
      (fun k => k.code.toNat) = List.range 10

/-- R15, R73, R74: the spellings of the registers. -/
def Obligations.RegisterNames : Prop :=
  (∀ n : RegIdx, gpr .NUMERIC n = "$".toList ++ dec n.toNat) ∧
    (List.range 32).map (fun n => gpr .ABI (BitVec.ofNat 5 n)) = List.map String.toList
        ["$zero", "$at", "$v0", "$v1", "$a0", "$a1", "$a2", "$a3", "$t0", "$t1", "$t2", "$t3", "$t4",
         "$t5", "$t6", "$t7", "$s0", "$s1", "$s2", "$s3", "$s4", "$s5", "$s6", "$s7", "$t8", "$t9",
         "$k0", "$k1", "$gp", "$sp", "$fp", "$ra"] ∧
    ∀ (z : BitVec 2) (n : RegIdx),
      cprd z n = "cop".toList ++ dec z.toNat ++ "r".toList ++ dec n.toNat ∧
        cprc z n = "cop".toList ++ dec z.toNat ++ "c".toList ++ dec n.toNat

/-- R75: decimal numerals. -/
def Obligations.DecimalNumerals : Prop :=
  (∀ v : Nat, readNumeral 10 (dec v) = some v ∧ noLeadingZero (dec v)) ∧
    (∀ p : BitVec 32, sdec p = if p.toInt < 0 then '-' :: dec (-p.toInt).toNat else dec p.toInt.toNat) ∧
    ∀ v : Int, sdecInt v = if v < 0 then '-' :: dec (-v).toNat else dec v.toNat

/-- R76, R77: hexadecimal numerals. `readNumeral` accepts no uppercase digit. -/
def Obligations.HexNumerals : Prop :=
  (∀ v : Nat, ∃ h : Text, hex v = '0' :: 'x' :: h ∧ readNumeral 16 h = some v ∧ noLeadingZero h) ∧
    ∀ w : Word, (hex8 w).length = 8 ∧ readNumeral 16 (hex8 w) = some w.toNat

/-- R78, R79: the two scalings of the block. (Their text forms are in the statements of the rows.) -/
def Obligations.DisplacementAndTarget : Prop :=
  ∀ w : Word,
    (broff (Extract.imm_se w) =
        4 * (if (Extract.imm w).toNat < 32768 then ((Extract.imm w).toNat : Int) else (Extract.imm w).toNat - 65536) ∧
      -131072 ≤ broff (Extract.imm_se w) ∧ broff (Extract.imm_se w) ≤ 131068 ∧ 4 ∣ broff (Extract.imm_se w)) ∧
    jtarget (Extract.imm_jump w) = 4 * (w.toNat % 2 ^ 26) ∧ jtarget (Extract.imm_jump w) ≤ 0x0FFFFFFC ∧
      4 ∣ jtarget (Extract.imm_jump w)

/-- R102: the nop flag and alias. -/
def Obligations.NopAlias : Prop :=
  ∀ st : State, ∃ t : State, step st = .next t ∧
    (t.ports.nop_o = 1#1 ↔ st.nextWord = 0x00000000#32) ∧
    (t.decoded.text = "nop".toList ↔ st.nextWord = 0x00000000#32) ∧
    (st.nextWord = 0x00000000#32 →
      t.decoded.known = true ∧ t.decoded.op = .sll ∧ t.decoded.shape = .R ∧ t.decoded.fmt = .F_D_T_SH ∧
        t.decoded.operands = [⟨.GPR, 0#32⟩, ⟨.GPR, 0#32⟩, ⟨.SHAMT, 0#32⟩])

/-- R103: the text is a derived rendering of the value. -/
def Obligations.TextDetermined : Prop :=
  (∀ a b t u : State, a.regNaming = b.regNaming → step a = .next t → step b = .next u →
      t.decoded.known = true → u.decoded.known = true → t.decoded.op = u.decoded.op →
      t.decoded.operands = u.decoded.operands → t.decoded.copz = u.decoded.copz → t.decoded.nop = u.decoded.nop →
      t.decoded.text = u.decoded.text) ∧
    (∀ a t : State, step a = .next t → t.decoded.known = false →
      t.decoded.text = "unknown 0x".toList ++ hex8 a.nextWord) ∧
    (∀ a t : State, step a = .next t → t.decoded.nop = true → t.decoded.text = "nop".toList) ∧
    ∀ a t : State, step a = .next t →
      (t.decoded.nop = false →
        t.decoded.text = (dispatchMux a.regNaming t.decoded.fmt t.decoded.op.mnemonic a.nextWord).text) ∧
      t.decoded.operands = (dispatchMux a.regNaming t.decoded.fmt t.decoded.op.mnemonic a.nextWord).operands

/-- R104: the text port. -/
def Obligations.TextPort : Prop :=
  ∀ st : State, ∃ t : State, step st = .next t ∧ t.decoded.text.length ≤ Config.textMax ∧
    t.ports.text_len_o.toNat = t.decoded.text.length ∧
    ∀ (k : Nat) (hk : k < 32),
      (∀ h : k < t.decoded.text.length,
        t.ports.text_o[k].toNat = t.decoded.text[k].toNat ∧ 0x20 ≤ t.ports.text_o[k].toNat ∧
          t.ports.text_o[k].toNat ≤ 0x7E) ∧
      (t.decoded.text.length ≤ k → t.ports.text_o[k] = 0x00#8)

/-- R105: the length bounds, which the spec marks as its own inference ("derived: from rules R73 to R102"). -/
def Obligations.TextLengths : Prop :=
  (∀ st t : State, step st = .next t → 3 ≤ t.decoded.text.length ∧
      (st.regNaming = .NUMERIC → t.decoded.text.length ≤ 25) ∧
      (st.regNaming = .ABI → t.decoded.text.length ≤ 27)) ∧
    (∃ t : State, step { State.reset with pending := [0x00000000#32] } = .next t ∧ t.decoded.text.length = 3) ∧
    (∃ t : State, step { State.reset with pending := [0x42000010#32] } = .next t ∧ t.decoded.text.length = 3) ∧
    (∃ t : State, step { State.reset with pending := [0xCFFF8000#32] } = .next t ∧
      t.decoded.text = "lwc3 cop3r31, -32768($31)".toList ∧ t.decoded.text.length = 25) ∧
    ∃ t : State, step { State.reset with regNaming := .ABI, pending := [0xCC1F8000#32] } = .next t ∧
      t.decoded.text = "lwc3 cop3r31, -32768($zero)".toList ∧ t.decoded.text.length = 27

/-! ## Every instruction completes: its own effect and its frame, on every state and all operands (R81 to R101) -/

/-- R83, R84, R85: F_D_S_T, F_D_T_SH and F_D_T_S; completion, result and frame. -/
def Obligations.ExecArithmetic : Prop :=
  (∀ (d s t : RegIdx) (st : State),
      exec (.add d s t) st = .next (st.showing .add .R .F_D_S_T (shownDST st.regNaming "add" d s t)) ∧
      exec (.addu d s t) st = .next (st.showing .addu .R .F_D_S_T (shownDST st.regNaming "addu" d s t)) ∧
      exec (.sub d s t) st = .next (st.showing .sub .R .F_D_S_T (shownDST st.regNaming "sub" d s t)) ∧
      exec (.subu d s t) st = .next (st.showing .subu .R .F_D_S_T (shownDST st.regNaming "subu" d s t)) ∧
      exec (.and d s t) st = .next (st.showing .and .R .F_D_S_T (shownDST st.regNaming "and" d s t)) ∧
      exec (.or d s t) st = .next (st.showing .or .R .F_D_S_T (shownDST st.regNaming "or" d s t)) ∧
      exec (.xor d s t) st = .next (st.showing .xor .R .F_D_S_T (shownDST st.regNaming "xor" d s t)) ∧
      exec (.nor d s t) st = .next (st.showing .nor .R .F_D_S_T (shownDST st.regNaming "nor" d s t)) ∧
      exec (.slt d s t) st = .next (st.showing .slt .R .F_D_S_T (shownDST st.regNaming "slt" d s t)) ∧
      exec (.sltu d s t) st = .next (st.showing .sltu .R .F_D_S_T (shownDST st.regNaming "sltu" d s t))) ∧
    (∀ (d t : RegIdx) (shift : BitVec 5) (st : State),
      exec (.sll d t shift) st = .next (st.showing .sll .R .F_D_T_SH (shownDTSh st.regNaming "sll" d t shift)) ∧
      exec (.srl d t shift) st = .next (st.showing .srl .R .F_D_T_SH (shownDTSh st.regNaming "srl" d t shift)) ∧
      exec (.sra d t shift) st = .next (st.showing .sra .R .F_D_T_SH (shownDTSh st.regNaming "sra" d t shift))) ∧
    (∀ (d t s : RegIdx) (st : State),
      exec (.sllv d t s) st = .next (st.showing .sllv .R .F_D_T_S (shownDTS st.regNaming "sllv" d t s)) ∧
      exec (.srlv d t s) st = .next (st.showing .srlv .R .F_D_T_S (shownDTS st.regNaming "srlv" d t s)) ∧
      exec (.srav d t s) st = .next (st.showing .srav .R .F_D_T_S (shownDTS st.regNaming "srav" d t s)))

/-- R86, R87, R88, R89: F_S, F_D_S, F_D and F_S_T; completion, result and frame. -/
def Obligations.ExecOneTwoRegister : Prop :=
  (∀ (s : RegIdx) (st : State),
      exec (.jr s) st = .next (st.showing .jr .R .F_S (shownOne st.regNaming "jr" s)) ∧
      exec (.mthi s) st = .next (st.showing .mthi .R .F_S (shownOne st.regNaming "mthi" s)) ∧
      exec (.mtlo s) st = .next (st.showing .mtlo .R .F_S (shownOne st.regNaming "mtlo" s))) ∧
    (∀ (d s : RegIdx) (st : State),
      exec (.jalr d s) st = .next (st.showing .jalr .R .F_D_S (shownTwo st.regNaming "jalr" d s))) ∧
    (∀ (d : RegIdx) (st : State),
      exec (.mfhi d) st = .next (st.showing .mfhi .R .F_D (shownOne st.regNaming "mfhi" d)) ∧
      exec (.mflo d) st = .next (st.showing .mflo .R .F_D (shownOne st.regNaming "mflo" d))) ∧
    (∀ (s t : RegIdx) (st : State),
      exec (.mult s t) st = .next (st.showing .mult .R .F_S_T (shownTwo st.regNaming "mult" s t)) ∧
      exec (.multu s t) st = .next (st.showing .multu .R .F_S_T (shownTwo st.regNaming "multu" s t)) ∧
      exec (.div s t) st = .next (st.showing .div .R .F_S_T (shownTwo st.regNaming "div" s t)) ∧
      exec (.divu s t) st = .next (st.showing .divu .R .F_S_T (shownTwo st.regNaming "divu" s t)))

/-- R82: F_NONE; completion, result and frame. -/
def Obligations.ExecNoOperand : Prop :=
  (∀ st : State,
      exec .syscall st = .next (st.showing .syscall .R .F_NONE (shownNone "syscall")) ∧
      exec .brk st = .next (st.showing .brk .R .F_NONE (shownNone "break")) ∧
      exec .tlbr st = .next (st.showing .tlbr .COP .F_NONE (shownNone "tlbr")) ∧
      exec .tlbwi st = .next (st.showing .tlbwi .COP .F_NONE (shownNone "tlbwi")) ∧
      exec .tlbwr st = .next (st.showing .tlbwr .COP .F_NONE (shownNone "tlbwr")) ∧
      exec .tlbp st = .next (st.showing .tlbp .COP .F_NONE (shownNone "tlbp")) ∧
      exec .rfe st = .next (st.showing .rfe .COP .F_NONE (shownNone "rfe")))

/-- R90, R91, R92: F_T_S_IS (signed, decimal), F_T_S_IU and F_T_IU (unsigned, hexadecimal); completion, result and
frame. -/
def Obligations.ExecImmediate : Prop :=
  (∀ (t s : RegIdx) (imm : BitVec 16) (st : State),
      exec (.addi t s imm) st = .next
        (st.showing .addi .I .F_T_S_IS (shownTSIs st.regNaming "addi" t s (imm.signExtend 32))) ∧
      exec (.addiu t s imm) st = .next
        (st.showing .addiu .I .F_T_S_IS (shownTSIs st.regNaming "addiu" t s (imm.signExtend 32))) ∧
      exec (.slti t s imm) st = .next
        (st.showing .slti .I .F_T_S_IS (shownTSIs st.regNaming "slti" t s (imm.signExtend 32))) ∧
      exec (.sltiu t s imm) st = .next
        (st.showing .sltiu .I .F_T_S_IS (shownTSIs st.regNaming "sltiu" t s (imm.signExtend 32)))) ∧
    (∀ (t s : RegIdx) (imm : BitVec 16) (st : State),
      exec (.andi t s imm) st = .next (st.showing .andi .I .F_T_S_IU (shownTSIu st.regNaming "andi" t s imm)) ∧
      exec (.ori t s imm) st = .next (st.showing .ori .I .F_T_S_IU (shownTSIu st.regNaming "ori" t s imm)) ∧
      exec (.xori t s imm) st = .next (st.showing .xori .I .F_T_S_IU (shownTSIu st.regNaming "xori" t s imm))) ∧
    (∀ (t : RegIdx) (imm : BitVec 16) (st : State),
      exec (.lui t imm) st = .next (st.showing .lui .I .F_T_IU (shownTIu st.regNaming "lui" t imm)))

/-- R93, R94, R95: F_S_T_BR, F_S_BR and F_BR; completion, result and frame. -/
def Obligations.ExecBranch : Prop :=
  (∀ (s t : RegIdx) (imm : BitVec 16) (st : State),
      exec (.beq s t imm) st = .next
        (st.showing .beq .I .F_S_T_BR (shownSTBr st.regNaming "beq" s t (imm.signExtend 32))) ∧
      exec (.bne s t imm) st = .next
        (st.showing .bne .I .F_S_T_BR (shownSTBr st.regNaming "bne" s t (imm.signExtend 32)))) ∧
    (∀ (s : RegIdx) (imm : BitVec 16) (st : State),
      exec (.bltz s imm) st = .next (st.showing .bltz .I .F_S_BR (shownSBr st.regNaming "bltz" s (imm.signExtend 32))) ∧
      exec (.bgez s imm) st = .next (st.showing .bgez .I .F_S_BR (shownSBr st.regNaming "bgez" s (imm.signExtend 32))) ∧
      exec (.bltzal s imm) st = .next
        (st.showing .bltzal .I .F_S_BR (shownSBr st.regNaming "bltzal" s (imm.signExtend 32))) ∧
      exec (.bgezal s imm) st = .next
        (st.showing .bgezal .I .F_S_BR (shownSBr st.regNaming "bgezal" s (imm.signExtend 32))) ∧
      exec (.blez s imm) st = .next (st.showing .blez .I .F_S_BR (shownSBr st.regNaming "blez" s (imm.signExtend 32))) ∧
      exec (.bgtz s imm) st = .next
        (st.showing .bgtz .I .F_S_BR (shownSBr st.regNaming "bgtz" s (imm.signExtend 32)))) ∧
    (∀ (imm : BitVec 16) (st : State),
      exec (.bc0f imm) st = .next (st.showing .bc0f .COP .F_BR (shownBr "bc0f" (imm.signExtend 32))) ∧
      exec (.bc1f imm) st = .next (st.showing .bc1f .COP .F_BR (shownBr "bc1f" (imm.signExtend 32))) ∧
      exec (.bc2f imm) st = .next (st.showing .bc2f .COP .F_BR (shownBr "bc2f" (imm.signExtend 32))) ∧
      exec (.bc3f imm) st = .next (st.showing .bc3f .COP .F_BR (shownBr "bc3f" (imm.signExtend 32))) ∧
      exec (.bc0t imm) st = .next (st.showing .bc0t .COP .F_BR (shownBr "bc0t" (imm.signExtend 32))) ∧
      exec (.bc1t imm) st = .next (st.showing .bc1t .COP .F_BR (shownBr "bc1t" (imm.signExtend 32))) ∧
      exec (.bc2t imm) st = .next (st.showing .bc2t .COP .F_BR (shownBr "bc2t" (imm.signExtend 32))) ∧
      exec (.bc3t imm) st = .next (st.showing .bc3t .COP .F_BR (shownBr "bc3t" (imm.signExtend 32))))

/-- R96, R101: F_JT and F_COFUN; completion, result and frame. -/
def Obligations.ExecJumpCofun : Prop :=
  (∀ (target : BitVec 26) (st : State),
      exec (.j target) st = .next (st.showing .j .J .F_JT (shownJt "j" target)) ∧
      exec (.jal target) st = .next (st.showing .jal .J .F_JT (shownJt "jal" target))) ∧
    (∀ (cofun : BitVec 25) (st : State),
      exec (.cop1 cofun) st = .next (st.showing .cop1 .COP .F_COFUN (shownCofun "cop1" cofun)) ∧
      exec (.cop2 cofun) st = .next (st.showing .cop2 .COP .F_COFUN (shownCofun "cop2" cofun)) ∧
      exec (.cop3 cofun) st = .next (st.showing .cop3 .COP .F_COFUN (shownCofun "cop3" cofun)))

/-- R97: F_T_MEM; completion, result and frame. -/
def Obligations.ExecLoadStore : Prop :=
  (∀ (t : RegIdx) (imm : BitVec 16) (s : RegIdx) (st : State),
      exec (.lb t imm s) st = .next (st.showing .lb .I .F_T_MEM (shownTMem st.regNaming "lb" t (imm.signExtend 32) s)) ∧
      exec (.lh t imm s) st = .next (st.showing .lh .I .F_T_MEM (shownTMem st.regNaming "lh" t (imm.signExtend 32) s)) ∧
      exec (.lwl t imm s) st = .next
        (st.showing .lwl .I .F_T_MEM (shownTMem st.regNaming "lwl" t (imm.signExtend 32) s)) ∧
      exec (.lw t imm s) st = .next (st.showing .lw .I .F_T_MEM (shownTMem st.regNaming "lw" t (imm.signExtend 32) s)) ∧
      exec (.lbu t imm s) st = .next
        (st.showing .lbu .I .F_T_MEM (shownTMem st.regNaming "lbu" t (imm.signExtend 32) s)) ∧
      exec (.lhu t imm s) st = .next
        (st.showing .lhu .I .F_T_MEM (shownTMem st.regNaming "lhu" t (imm.signExtend 32) s)) ∧
      exec (.lwr t imm s) st = .next
        (st.showing .lwr .I .F_T_MEM (shownTMem st.regNaming "lwr" t (imm.signExtend 32) s)) ∧
      exec (.sb t imm s) st = .next (st.showing .sb .I .F_T_MEM (shownTMem st.regNaming "sb" t (imm.signExtend 32) s)) ∧
      exec (.sh t imm s) st = .next (st.showing .sh .I .F_T_MEM (shownTMem st.regNaming "sh" t (imm.signExtend 32) s)) ∧
      exec (.swl t imm s) st = .next
        (st.showing .swl .I .F_T_MEM (shownTMem st.regNaming "swl" t (imm.signExtend 32) s)) ∧
      exec (.sw t imm s) st = .next (st.showing .sw .I .F_T_MEM (shownTMem st.regNaming "sw" t (imm.signExtend 32) s)) ∧
      exec (.swr t imm s) st = .next
        (st.showing .swr .I .F_T_MEM (shownTMem st.regNaming "swr" t (imm.signExtend 32) s)))

/-- R98: F_CT_MEM, t naming a register of the coprocessor copz; completion, result and frame. -/
def Obligations.ExecCoprocessorLoadStore : Prop :=
  (∀ (t : RegIdx) (imm : BitVec 16) (s : RegIdx) (st : State),
      exec (.lwc0 t imm s) st = .next
        (st.showing .lwc0 .I .F_CT_MEM (shownCtMem st.regNaming "lwc0" st.decoded.copz t (imm.signExtend 32) s)) ∧
      exec (.lwc1 t imm s) st = .next
        (st.showing .lwc1 .I .F_CT_MEM (shownCtMem st.regNaming "lwc1" st.decoded.copz t (imm.signExtend 32) s)) ∧
      exec (.lwc2 t imm s) st = .next
        (st.showing .lwc2 .I .F_CT_MEM (shownCtMem st.regNaming "lwc2" st.decoded.copz t (imm.signExtend 32) s)) ∧
      exec (.lwc3 t imm s) st = .next
        (st.showing .lwc3 .I .F_CT_MEM (shownCtMem st.regNaming "lwc3" st.decoded.copz t (imm.signExtend 32) s)) ∧
      exec (.swc0 t imm s) st = .next
        (st.showing .swc0 .I .F_CT_MEM (shownCtMem st.regNaming "swc0" st.decoded.copz t (imm.signExtend 32) s)) ∧
      exec (.swc1 t imm s) st = .next
        (st.showing .swc1 .I .F_CT_MEM (shownCtMem st.regNaming "swc1" st.decoded.copz t (imm.signExtend 32) s)) ∧
      exec (.swc2 t imm s) st = .next
        (st.showing .swc2 .I .F_CT_MEM (shownCtMem st.regNaming "swc2" st.decoded.copz t (imm.signExtend 32) s)) ∧
      exec (.swc3 t imm s) st = .next
        (st.showing .swc3 .I .F_CT_MEM (shownCtMem st.regNaming "swc3" st.decoded.copz t (imm.signExtend 32) s)))

/-- R99, R100: F_T_CD and F_T_CC, d naming a register of the coprocessor copz; completion, result and frame. -/
def Obligations.ExecCoprocessorMove : Prop :=
  (∀ (t d : RegIdx) (st : State),
      exec (.mfc0 t d) st = .next (st.showing .mfc0 .COP .F_T_CD (shownTCd st.regNaming "mfc0" st.decoded.copz t d)) ∧
      exec (.mfc1 t d) st = .next (st.showing .mfc1 .COP .F_T_CD (shownTCd st.regNaming "mfc1" st.decoded.copz t d)) ∧
      exec (.mfc2 t d) st = .next (st.showing .mfc2 .COP .F_T_CD (shownTCd st.regNaming "mfc2" st.decoded.copz t d)) ∧
      exec (.mfc3 t d) st = .next (st.showing .mfc3 .COP .F_T_CD (shownTCd st.regNaming "mfc3" st.decoded.copz t d)) ∧
      exec (.mtc0 t d) st = .next (st.showing .mtc0 .COP .F_T_CD (shownTCd st.regNaming "mtc0" st.decoded.copz t d)) ∧
      exec (.mtc1 t d) st = .next (st.showing .mtc1 .COP .F_T_CD (shownTCd st.regNaming "mtc1" st.decoded.copz t d)) ∧
      exec (.mtc2 t d) st = .next (st.showing .mtc2 .COP .F_T_CD (shownTCd st.regNaming "mtc2" st.decoded.copz t d)) ∧
      exec (.mtc3 t d) st = .next (st.showing .mtc3 .COP .F_T_CD (shownTCd st.regNaming "mtc3" st.decoded.copz t d))) ∧
    (∀ (t d : RegIdx) (st : State),
      exec (.cfc0 t d) st = .next (st.showing .cfc0 .COP .F_T_CC (shownTCc st.regNaming "cfc0" st.decoded.copz t d)) ∧
      exec (.cfc1 t d) st = .next (st.showing .cfc1 .COP .F_T_CC (shownTCc st.regNaming "cfc1" st.decoded.copz t d)) ∧
      exec (.cfc2 t d) st = .next (st.showing .cfc2 .COP .F_T_CC (shownTCc st.regNaming "cfc2" st.decoded.copz t d)) ∧
      exec (.cfc3 t d) st = .next (st.showing .cfc3 .COP .F_T_CC (shownTCc st.regNaming "cfc3" st.decoded.copz t d)) ∧
      exec (.ctc0 t d) st = .next (st.showing .ctc0 .COP .F_T_CC (shownTCc st.regNaming "ctc0" st.decoded.copz t d)) ∧
      exec (.ctc1 t d) st = .next (st.showing .ctc1 .COP .F_T_CC (shownTCc st.regNaming "ctc1" st.decoded.copz t d)) ∧
      exec (.ctc2 t d) st = .next (st.showing .ctc2 .COP .F_T_CC (shownTCc st.regNaming "ctc2" st.decoded.copz t d)) ∧
      exec (.ctc3 t d) st = .next (st.showing .ctc3 .COP .F_T_CC (shownTCc st.regNaming "ctc3" st.decoded.copz t d)))

/-! ## The rule of every row, from the word to all outputs (R110 to R207) -/

/-- R110 to R119: the rules of these rows, from the word to every output. -/
def Obligations.RowsShiftJump : Prop :=
  RowRule 1 .sll 0x00000000#32 0xFC00003F#32 .R .F_D_T_SH 3
      (fun nm w => shownDTSh nm "sll" (Extract.d w) (Extract.t w) (Extract.shift w)) ∧
    RowRule 2 .srl 0x00000002#32 0xFC00003F#32 .R .F_D_T_SH 3
      (fun nm w => shownDTSh nm "srl" (Extract.d w) (Extract.t w) (Extract.shift w)) ∧
    RowRule 3 .sra 0x00000003#32 0xFC00003F#32 .R .F_D_T_SH 3
      (fun nm w => shownDTSh nm "sra" (Extract.d w) (Extract.t w) (Extract.shift w)) ∧
    RowRule 4 .sllv 0x00000004#32 0xFC00003F#32 .R .F_D_T_S 4
      (fun nm w => shownDTS nm "sllv" (Extract.d w) (Extract.t w) (Extract.s w)) ∧
    RowRule 5 .srlv 0x00000006#32 0xFC00003F#32 .R .F_D_T_S 4
      (fun nm w => shownDTS nm "srlv" (Extract.d w) (Extract.t w) (Extract.s w)) ∧
    RowRule 6 .srav 0x00000007#32 0xFC00003F#32 .R .F_D_T_S 4
      (fun nm w => shownDTS nm "srav" (Extract.d w) (Extract.t w) (Extract.s w)) ∧
    RowRule 7 .jr 0x00000008#32 0xFC00003F#32 .R .F_S 5
      (fun nm w => shownOne nm "jr" (Extract.s w)) ∧
    RowRule 8 .jalr 0x00000009#32 0xFC00003F#32 .R .F_D_S 6
      (fun nm w => shownTwo nm "jalr" (Extract.d w) (Extract.s w)) ∧
    RowRule 9 .syscall 0x0000000C#32 0xFC00003F#32 .R .F_NONE 1
      (fun _ _ => shownNone "syscall") ∧
    RowRule 10 .brk 0x0000000D#32 0xFC00003F#32 .R .F_NONE 1
      (fun _ _ => shownNone "break")

/-- R120 to R127: the rules of these rows, from the word to every output. -/
def Obligations.RowsHiLoMultiply : Prop :=
  RowRule 11 .mfhi 0x00000010#32 0xFC00003F#32 .R .F_D 7
      (fun nm w => shownOne nm "mfhi" (Extract.d w)) ∧
    RowRule 12 .mthi 0x00000011#32 0xFC00003F#32 .R .F_S 5
      (fun nm w => shownOne nm "mthi" (Extract.s w)) ∧
    RowRule 13 .mflo 0x00000012#32 0xFC00003F#32 .R .F_D 7
      (fun nm w => shownOne nm "mflo" (Extract.d w)) ∧
    RowRule 14 .mtlo 0x00000013#32 0xFC00003F#32 .R .F_S 5
      (fun nm w => shownOne nm "mtlo" (Extract.s w)) ∧
    RowRule 15 .mult 0x00000018#32 0xFC00003F#32 .R .F_S_T 8
      (fun nm w => shownTwo nm "mult" (Extract.s w) (Extract.t w)) ∧
    RowRule 16 .multu 0x00000019#32 0xFC00003F#32 .R .F_S_T 8
      (fun nm w => shownTwo nm "multu" (Extract.s w) (Extract.t w)) ∧
    RowRule 17 .div 0x0000001A#32 0xFC00003F#32 .R .F_S_T 8
      (fun nm w => shownTwo nm "div" (Extract.s w) (Extract.t w)) ∧
    RowRule 18 .divu 0x0000001B#32 0xFC00003F#32 .R .F_S_T 8
      (fun nm w => shownTwo nm "divu" (Extract.s w) (Extract.t w))

/-- R128 to R137: the rules of these rows, from the word to every output. -/
def Obligations.RowsThreeRegister : Prop :=
  RowRule 19 .add 0x00000020#32 0xFC00003F#32 .R .F_D_S_T 2
      (fun nm w => shownDST nm "add" (Extract.d w) (Extract.s w) (Extract.t w)) ∧
    RowRule 20 .addu 0x00000021#32 0xFC00003F#32 .R .F_D_S_T 2
      (fun nm w => shownDST nm "addu" (Extract.d w) (Extract.s w) (Extract.t w)) ∧
    RowRule 21 .sub 0x00000022#32 0xFC00003F#32 .R .F_D_S_T 2
      (fun nm w => shownDST nm "sub" (Extract.d w) (Extract.s w) (Extract.t w)) ∧
    RowRule 22 .subu 0x00000023#32 0xFC00003F#32 .R .F_D_S_T 2
      (fun nm w => shownDST nm "subu" (Extract.d w) (Extract.s w) (Extract.t w)) ∧
    RowRule 23 .and 0x00000024#32 0xFC00003F#32 .R .F_D_S_T 2
      (fun nm w => shownDST nm "and" (Extract.d w) (Extract.s w) (Extract.t w)) ∧
    RowRule 24 .or 0x00000025#32 0xFC00003F#32 .R .F_D_S_T 2
      (fun nm w => shownDST nm "or" (Extract.d w) (Extract.s w) (Extract.t w)) ∧
    RowRule 25 .xor 0x00000026#32 0xFC00003F#32 .R .F_D_S_T 2
      (fun nm w => shownDST nm "xor" (Extract.d w) (Extract.s w) (Extract.t w)) ∧
    RowRule 26 .nor 0x00000027#32 0xFC00003F#32 .R .F_D_S_T 2
      (fun nm w => shownDST nm "nor" (Extract.d w) (Extract.s w) (Extract.t w)) ∧
    RowRule 27 .slt 0x0000002A#32 0xFC00003F#32 .R .F_D_S_T 2
      (fun nm w => shownDST nm "slt" (Extract.d w) (Extract.s w) (Extract.t w)) ∧
    RowRule 28 .sltu 0x0000002B#32 0xFC00003F#32 .R .F_D_S_T 2
      (fun nm w => shownDST nm "sltu" (Extract.d w) (Extract.s w) (Extract.t w))

/-- R138 to R147: the rules of these rows, from the word to every output. -/
def Obligations.RowsBranchJump : Prop :=
  RowRule 29 .bltz 0x04000000#32 0xFC1F0000#32 .I .F_S_BR 13
      (fun nm w => shownSBr nm "bltz" (Extract.s w) (Extract.imm_se w)) ∧
    RowRule 30 .bgez 0x04010000#32 0xFC1F0000#32 .I .F_S_BR 13
      (fun nm w => shownSBr nm "bgez" (Extract.s w) (Extract.imm_se w)) ∧
    RowRule 31 .bltzal 0x04100000#32 0xFC1F0000#32 .I .F_S_BR 13
      (fun nm w => shownSBr nm "bltzal" (Extract.s w) (Extract.imm_se w)) ∧
    RowRule 32 .bgezal 0x04110000#32 0xFC1F0000#32 .I .F_S_BR 13
      (fun nm w => shownSBr nm "bgezal" (Extract.s w) (Extract.imm_se w)) ∧
    RowRule 33 .j 0x08000000#32 0xFC000000#32 .J .F_JT 15
      (fun _ w => shownJt "j" (Extract.imm_jump w)) ∧
    RowRule 34 .jal 0x0C000000#32 0xFC000000#32 .J .F_JT 15
      (fun _ w => shownJt "jal" (Extract.imm_jump w)) ∧
    RowRule 35 .beq 0x10000000#32 0xFC000000#32 .I .F_S_T_BR 12
      (fun nm w => shownSTBr nm "beq" (Extract.s w) (Extract.t w) (Extract.imm_se w)) ∧
    RowRule 36 .bne 0x14000000#32 0xFC000000#32 .I .F_S_T_BR 12
      (fun nm w => shownSTBr nm "bne" (Extract.s w) (Extract.t w) (Extract.imm_se w)) ∧
    RowRule 37 .blez 0x18000000#32 0xFC000000#32 .I .F_S_BR 13
      (fun nm w => shownSBr nm "blez" (Extract.s w) (Extract.imm_se w)) ∧
    RowRule 38 .bgtz 0x1C000000#32 0xFC000000#32 .I .F_S_BR 13
      (fun nm w => shownSBr nm "bgtz" (Extract.s w) (Extract.imm_se w))

/-- R148 to R155: the rules of these rows, from the word to every output. -/
def Obligations.RowsImmediate : Prop :=
  RowRule 39 .addi 0x20000000#32 0xFC000000#32 .I .F_T_S_IS 9
      (fun nm w => shownTSIs nm "addi" (Extract.t w) (Extract.s w) (Extract.imm_se w)) ∧
    RowRule 40 .addiu 0x24000000#32 0xFC000000#32 .I .F_T_S_IS 9
      (fun nm w => shownTSIs nm "addiu" (Extract.t w) (Extract.s w) (Extract.imm_se w)) ∧
    RowRule 41 .slti 0x28000000#32 0xFC000000#32 .I .F_T_S_IS 9
      (fun nm w => shownTSIs nm "slti" (Extract.t w) (Extract.s w) (Extract.imm_se w)) ∧
    RowRule 42 .sltiu 0x2C000000#32 0xFC000000#32 .I .F_T_S_IS 9
      (fun nm w => shownTSIs nm "sltiu" (Extract.t w) (Extract.s w) (Extract.imm_se w)) ∧
    RowRule 43 .andi 0x30000000#32 0xFC000000#32 .I .F_T_S_IU 10
      (fun nm w => shownTSIu nm "andi" (Extract.t w) (Extract.s w) (Extract.imm w)) ∧
    RowRule 44 .ori 0x34000000#32 0xFC000000#32 .I .F_T_S_IU 10
      (fun nm w => shownTSIu nm "ori" (Extract.t w) (Extract.s w) (Extract.imm w)) ∧
    RowRule 45 .xori 0x38000000#32 0xFC000000#32 .I .F_T_S_IU 10
      (fun nm w => shownTSIu nm "xori" (Extract.t w) (Extract.s w) (Extract.imm w)) ∧
    RowRule 46 .lui 0x3C000000#32 0xFC000000#32 .I .F_T_IU 11
      (fun nm w => shownTIu nm "lui" (Extract.t w) (Extract.imm w))

/-- R156 to R167: the rules of these rows, from the word to every output. -/
def Obligations.RowsLoadStore : Prop :=
  RowRule 47 .lb 0x80000000#32 0xFC000000#32 .I .F_T_MEM 16
      (fun nm w => shownTMem nm "lb" (Extract.t w) (Extract.imm_se w) (Extract.s w)) ∧
    RowRule 48 .lh 0x84000000#32 0xFC000000#32 .I .F_T_MEM 16
      (fun nm w => shownTMem nm "lh" (Extract.t w) (Extract.imm_se w) (Extract.s w)) ∧
    RowRule 49 .lwl 0x88000000#32 0xFC000000#32 .I .F_T_MEM 16
      (fun nm w => shownTMem nm "lwl" (Extract.t w) (Extract.imm_se w) (Extract.s w)) ∧
    RowRule 50 .lw 0x8C000000#32 0xFC000000#32 .I .F_T_MEM 16
      (fun nm w => shownTMem nm "lw" (Extract.t w) (Extract.imm_se w) (Extract.s w)) ∧
    RowRule 51 .lbu 0x90000000#32 0xFC000000#32 .I .F_T_MEM 16
      (fun nm w => shownTMem nm "lbu" (Extract.t w) (Extract.imm_se w) (Extract.s w)) ∧
    RowRule 52 .lhu 0x94000000#32 0xFC000000#32 .I .F_T_MEM 16
      (fun nm w => shownTMem nm "lhu" (Extract.t w) (Extract.imm_se w) (Extract.s w)) ∧
    RowRule 53 .lwr 0x98000000#32 0xFC000000#32 .I .F_T_MEM 16
      (fun nm w => shownTMem nm "lwr" (Extract.t w) (Extract.imm_se w) (Extract.s w)) ∧
    RowRule 54 .sb 0xA0000000#32 0xFC000000#32 .I .F_T_MEM 16
      (fun nm w => shownTMem nm "sb" (Extract.t w) (Extract.imm_se w) (Extract.s w)) ∧
    RowRule 55 .sh 0xA4000000#32 0xFC000000#32 .I .F_T_MEM 16
      (fun nm w => shownTMem nm "sh" (Extract.t w) (Extract.imm_se w) (Extract.s w)) ∧
    RowRule 56 .swl 0xA8000000#32 0xFC000000#32 .I .F_T_MEM 16
      (fun nm w => shownTMem nm "swl" (Extract.t w) (Extract.imm_se w) (Extract.s w)) ∧
    RowRule 57 .sw 0xAC000000#32 0xFC000000#32 .I .F_T_MEM 16
      (fun nm w => shownTMem nm "sw" (Extract.t w) (Extract.imm_se w) (Extract.s w)) ∧
    RowRule 58 .swr 0xB8000000#32 0xFC000000#32 .I .F_T_MEM 16
      (fun nm w => shownTMem nm "swr" (Extract.t w) (Extract.imm_se w) (Extract.s w))

/-- R168 to R175: the rules of these rows, from the word to every output. -/
def Obligations.RowsCoprocessorLoadStore : Prop :=
  RowRule 59 .lwc0 0xC0000000#32 0xFC000000#32 .I .F_CT_MEM 17
      (fun nm w => shownCtMem nm "lwc0" 0#2 (Extract.t w) (Extract.imm_se w) (Extract.s w)) ∧
    RowRule 60 .lwc1 0xC4000000#32 0xFC000000#32 .I .F_CT_MEM 17
      (fun nm w => shownCtMem nm "lwc1" 1#2 (Extract.t w) (Extract.imm_se w) (Extract.s w)) ∧
    RowRule 61 .lwc2 0xC8000000#32 0xFC000000#32 .I .F_CT_MEM 17
      (fun nm w => shownCtMem nm "lwc2" 2#2 (Extract.t w) (Extract.imm_se w) (Extract.s w)) ∧
    RowRule 62 .lwc3 0xCC000000#32 0xFC000000#32 .I .F_CT_MEM 17
      (fun nm w => shownCtMem nm "lwc3" 3#2 (Extract.t w) (Extract.imm_se w) (Extract.s w)) ∧
    RowRule 63 .swc0 0xE0000000#32 0xFC000000#32 .I .F_CT_MEM 17
      (fun nm w => shownCtMem nm "swc0" 0#2 (Extract.t w) (Extract.imm_se w) (Extract.s w)) ∧
    RowRule 64 .swc1 0xE4000000#32 0xFC000000#32 .I .F_CT_MEM 17
      (fun nm w => shownCtMem nm "swc1" 1#2 (Extract.t w) (Extract.imm_se w) (Extract.s w)) ∧
    RowRule 65 .swc2 0xE8000000#32 0xFC000000#32 .I .F_CT_MEM 17
      (fun nm w => shownCtMem nm "swc2" 2#2 (Extract.t w) (Extract.imm_se w) (Extract.s w)) ∧
    RowRule 66 .swc3 0xEC000000#32 0xFC000000#32 .I .F_CT_MEM 17
      (fun nm w => shownCtMem nm "swc3" 3#2 (Extract.t w) (Extract.imm_se w) (Extract.s w))

/-- R176 to R187: the rules of these rows, from the word to every output. -/
def Obligations.RowsCoprocessorMove : Prop :=
  RowRule 67 .mfc0 0x40000000#32 0xFFE00000#32 .COP .F_T_CD 18
      (fun nm w => shownTCd nm "mfc0" 0#2 (Extract.t w) (Extract.d w)) ∧
    RowRule 68 .mfc1 0x44000000#32 0xFFE00000#32 .COP .F_T_CD 18
      (fun nm w => shownTCd nm "mfc1" 1#2 (Extract.t w) (Extract.d w)) ∧
    RowRule 69 .mfc2 0x48000000#32 0xFFE00000#32 .COP .F_T_CD 18
      (fun nm w => shownTCd nm "mfc2" 2#2 (Extract.t w) (Extract.d w)) ∧
    RowRule 70 .mfc3 0x4C000000#32 0xFFE00000#32 .COP .F_T_CD 18
      (fun nm w => shownTCd nm "mfc3" 3#2 (Extract.t w) (Extract.d w)) ∧
    RowRule 71 .cfc0 0x40400000#32 0xFFE00000#32 .COP .F_T_CC 19
      (fun nm w => shownTCc nm "cfc0" 0#2 (Extract.t w) (Extract.d w)) ∧
    RowRule 72 .cfc1 0x44400000#32 0xFFE00000#32 .COP .F_T_CC 19
      (fun nm w => shownTCc nm "cfc1" 1#2 (Extract.t w) (Extract.d w)) ∧
    RowRule 73 .cfc2 0x48400000#32 0xFFE00000#32 .COP .F_T_CC 19
      (fun nm w => shownTCc nm "cfc2" 2#2 (Extract.t w) (Extract.d w)) ∧
    RowRule 74 .cfc3 0x4C400000#32 0xFFE00000#32 .COP .F_T_CC 19
      (fun nm w => shownTCc nm "cfc3" 3#2 (Extract.t w) (Extract.d w)) ∧
    RowRule 75 .mtc0 0x40800000#32 0xFFE00000#32 .COP .F_T_CD 18
      (fun nm w => shownTCd nm "mtc0" 0#2 (Extract.t w) (Extract.d w)) ∧
    RowRule 76 .mtc1 0x44800000#32 0xFFE00000#32 .COP .F_T_CD 18
      (fun nm w => shownTCd nm "mtc1" 1#2 (Extract.t w) (Extract.d w)) ∧
    RowRule 77 .mtc2 0x48800000#32 0xFFE00000#32 .COP .F_T_CD 18
      (fun nm w => shownTCd nm "mtc2" 2#2 (Extract.t w) (Extract.d w)) ∧
    RowRule 78 .mtc3 0x4C800000#32 0xFFE00000#32 .COP .F_T_CD 18
      (fun nm w => shownTCd nm "mtc3" 3#2 (Extract.t w) (Extract.d w))

/-- R188 to R199: the rules of these rows, from the word to every output. -/
def Obligations.RowsControlBranch : Prop :=
  RowRule 79 .ctc0 0x40C00000#32 0xFFE00000#32 .COP .F_T_CC 19
      (fun nm w => shownTCc nm "ctc0" 0#2 (Extract.t w) (Extract.d w)) ∧
    RowRule 80 .ctc1 0x44C00000#32 0xFFE00000#32 .COP .F_T_CC 19
      (fun nm w => shownTCc nm "ctc1" 1#2 (Extract.t w) (Extract.d w)) ∧
    RowRule 81 .ctc2 0x48C00000#32 0xFFE00000#32 .COP .F_T_CC 19
      (fun nm w => shownTCc nm "ctc2" 2#2 (Extract.t w) (Extract.d w)) ∧
    RowRule 82 .ctc3 0x4CC00000#32 0xFFE00000#32 .COP .F_T_CC 19
      (fun nm w => shownTCc nm "ctc3" 3#2 (Extract.t w) (Extract.d w)) ∧
    RowRule 83 .bc0f 0x41000000#32 0xFFFF0000#32 .COP .F_BR 14
      (fun _ w => shownBr "bc0f" (Extract.imm_se w)) ∧
    RowRule 84 .bc1f 0x45000000#32 0xFFFF0000#32 .COP .F_BR 14
      (fun _ w => shownBr "bc1f" (Extract.imm_se w)) ∧
    RowRule 85 .bc2f 0x49000000#32 0xFFFF0000#32 .COP .F_BR 14
      (fun _ w => shownBr "bc2f" (Extract.imm_se w)) ∧
    RowRule 86 .bc3f 0x4D000000#32 0xFFFF0000#32 .COP .F_BR 14
      (fun _ w => shownBr "bc3f" (Extract.imm_se w)) ∧
    RowRule 87 .bc0t 0x41010000#32 0xFFFF0000#32 .COP .F_BR 14
      (fun _ w => shownBr "bc0t" (Extract.imm_se w)) ∧
    RowRule 88 .bc1t 0x45010000#32 0xFFFF0000#32 .COP .F_BR 14
      (fun _ w => shownBr "bc1t" (Extract.imm_se w)) ∧
    RowRule 89 .bc2t 0x49010000#32 0xFFFF0000#32 .COP .F_BR 14
      (fun _ w => shownBr "bc2t" (Extract.imm_se w)) ∧
    RowRule 90 .bc3t 0x4D010000#32 0xFFFF0000#32 .COP .F_BR 14
      (fun _ w => shownBr "bc3t" (Extract.imm_se w))

/-- R200 to R207: the rules of these rows, from the word to every output. -/
def Obligations.RowsOperation : Prop :=
  RowRule 91 .tlbr 0x42000001#32 0xFFE0003F#32 .COP .F_NONE 1
      (fun _ _ => shownNone "tlbr") ∧
    RowRule 92 .tlbwi 0x42000002#32 0xFFE0003F#32 .COP .F_NONE 1
      (fun _ _ => shownNone "tlbwi") ∧
    RowRule 93 .tlbwr 0x42000006#32 0xFFE0003F#32 .COP .F_NONE 1
      (fun _ _ => shownNone "tlbwr") ∧
    RowRule 94 .tlbp 0x42000008#32 0xFFE0003F#32 .COP .F_NONE 1
      (fun _ _ => shownNone "tlbp") ∧
    RowRule 95 .rfe 0x42000010#32 0xFFE0003F#32 .COP .F_NONE 1
      (fun _ _ => shownNone "rfe") ∧
    RowRule 96 .cop1 0x46000000#32 0xFE000000#32 .COP .F_COFUN 20
      (fun _ w => shownCofun "cop1" (Extract.cofun w)) ∧
    RowRule 97 .cop2 0x4A000000#32 0xFE000000#32 .COP .F_COFUN 20
      (fun _ w => shownCofun "cop2" (Extract.cofun w)) ∧
    RowRule 98 .cop3 0x4E000000#32 0xFE000000#32 .COP .F_COFUN 20
      (fun _ w => shownCofun "cop3" (Extract.cofun w))

/-! ## The unknown-instruction outcome (47_unknown.md) -/

/-- R208: the unknown-instruction outcome. -/
def Obligations.UnknownOutcome : Prop :=
  ∀ st : State, (∀ r ∈ mipsI, st.nextWord &&& r.mask ≠ r.matchBits) →
    ∃ t : State, step st = .next t ∧
      t = { regNaming := st.regNaming
            instr_i := st.nextWord
            pending := st.pending.tail
            fields := fieldsOf st.nextWord
            decoded :=
              { known := false, op := .UNKNOWN, shape := .NONE, fmt := .F_UNK, copz := Extract.copz st.nextWord,
                nop := false, operands := [], text := "unknown 0x".toList ++ hex8 st.nextWord } } ∧
      t.ports.known_o = 0#1 ∧ t.ports.op_o = 0#7 ∧ t.ports.shape_o = 0#3 ∧ t.ports.fmt_o = 0#5 ∧
      t.ports.opnd_count_o = 0#2 ∧ t.ports.nop_o = 0#1 ∧ t.ports.copz_o = st.nextWord.extractLsb' 26 2 ∧
      (∀ (k : Nat) (hk : k < 3), t.ports.opnd_kind_o[k] = 0#4 ∧ t.ports.opnd_val_o[k] = 0#32) ∧
      t.ports.text_len_o = 18#6

/-- R210: the outcome is distinct, which the spec marks as its own inference ("derived: from 41_dispatch_render.md
rule R67"). -/
def Obligations.UnknownDistinct : Prop :=
  (∀ st t : State, step st = .next t →
      (t.ports.known_o = 1#1 →
        t.decoded.op ≠ .UNKNOWN ∧ t.ports.op_o ≠ 0#7 ∧ ¬ "unknown".toList <+: t.decoded.text) ∧
      (t.ports.known_o = 0#1 → t.ports.op_o = 0#7 ∧ "unknown".toList <+: t.decoded.text)) ∧
    ∀ r ∈ mipsI, r.op.mnemonic ≠ "unknown".toList

/-- R211: the text of the unknown outcome carries the whole word, which the spec marks as its own inference
("derived: from 41_dispatch_render.md rule R81"). -/
def Obligations.UnknownCarriesWord : Prop :=
  ∀ st t : State, step st = .next t → t.decoded.known = false →
    readNumeral 16 ((t.decoded.text.drop 10).take 8) = some st.nextWord.toNat

/-- R214: the size of the unknown set under the decided table, in whole and by arm, which the spec marks as its own
inference ("derived: from the mask and match columns of opcode_table.json"). -/
def Obligations.UnknownCount : Prop :=
  Nat.card (Subtype fun w : Word => recognises mipsI w = false) = 1840611328 ∧
    Nat.card (Subtype fun w : Word => recognises mipsI w = true) = 2454355968 ∧
    Nat.card (Subtype fun w : Word => recognises mipsI w = false ∧ (Extract.function w).toNat ∉
      [0x00, 0x01, 0x10, 0x11, 0x12, 0x13]) = 1610612736 ∧
    Nat.card (Subtype fun w : Word => recognises mipsI w = false ∧ Extract.function w = 0x00#6) = 37748736 ∧
    Nat.card (Subtype fun w : Word => recognises mipsI w = false ∧ Extract.function w = 0x01#6) = 58720256 ∧
    Nat.card (Subtype fun w : Word => recognises mipsI w = false ∧ Extract.function w = 0x10#6) = 58425344 ∧
    Nat.card (Subtype fun w : Word => recognises mipsI w = false ∧ Extract.function w = 0x11#6) = 25034752 ∧
    Nat.card (Subtype fun w : Word => recognises mipsI w = false ∧ Extract.function w = 0x12#6) = 25034752 ∧
    Nat.card (Subtype fun w : Word => recognises mipsI w = false ∧ Extract.function w = 0x13#6) = 25034752

/-! ## Decode and encode (R108) -/

/-- The encodings of R110, R128, R139, R143, R145, R155, R159, R170, R184, R194, R204, R206 and the unknown words of
R213. -/
def Obligations.DecodeWrittenWords : Prop :=
  decode 0b00000000000000100001000010000000#32 = .row (.sll 2#5 2#5 2#5) ∧
    decode 0b00000000100001010001100000100000#32 = .row (.add 3#5 4#5 5#5) ∧
    decode 0b00000100100000010000000000000011#32 = .row (.bgez 4#5 0x0003#16) ∧
    decode 0b00001100000100000000000001000000#32 = .row (.jal 0x0100040#26) ∧
    decode 0b00010100101000001111111111111011#32 = .row (.bne 5#5 0#5 0xFFFB#16) ∧
    decode 0b00111100000000010000000000000001#32 = .row (.lui 1#5 0x0001#16) ∧
    decode 0b10001111101111110000000000010100#32 = .row (.lw 31#5 0x0014#16 29#5) ∧
    decode 0b11001000100000010000000000001000#32 = .row (.lwc2 1#5 0x0008#16 4#5) ∧
    decode 0b01000000100000000110000000000000#32 = .row (.mtc0 0#5 12#5) ∧
    decode 0b01001001000000001111111111111110#32 = .row (.bc2f 0xFFFE#16) ∧
    decode 0b01000010000000000000000000010000#32 = .row .rfe ∧
    decode 0b01001010000110000000000000000001#32 = .row (.cop2 0x0180001#25) ∧
    decode 0b00000000000000000000000000111111#32 = .unknown 0x0000003F#32 ∧
    decode 0b00000100000000100000000000000000#32 = .unknown 0x04020000#32 ∧
    decode 0b01000100001000000000000000000000#32 = .unknown 0x44200000#32 ∧
    decode 0b11111100000000000000000000000000#32 = .unknown 0xFC000000#32

/-- R108: the round-trip property of the block. -/
def Obligations.RoundTrip : Prop :=
  ∀ (junk : Word) (i : Instr), decode (encodeWith junk i) = .row i ∧
    ∀ st : State, st.nextWord = encodeWith junk i →
      ∃ t : State, step st = .next t ∧ t.decoded.known = true ∧ t.decoded.op = i.op ∧
        t.decoded.operands = i.operands

/-- The other direction of R108. -/
def Obligations.DecodeThenEncode : Prop :=
  ∀ (w : Word) (i : Instr), decode w = .row i → encodeWith w i = w

/-- R26, decision D19: the host's duty before the block. That the model offers both orders is its choice
(notes/assumptions/6.md). -/
def Obligations.HostAssembly : Prop :=
  (∀ b0 b1 b2 b3 : Byte, (assemble .BIG b0 b1 b2 b3).toNat =
      b0.toNat * 2 ^ 24 + b1.toNat * 2 ^ 16 + b2.toNat * 2 ^ 8 + b3.toNat) ∧
    (∀ b0 b1 b2 b3 : Byte, (assemble .LITTLE b0 b1 b2 b3).toNat =
      b3.toNat * 2 ^ 24 + b2.toNat * 2 ^ 16 + b1.toNat * 2 ^ 8 + b0.toNat) ∧
    (∀ (o : HostByteOrder) (b0 b1 b2 b3 : Byte) (rest : List Byte),
      decodeBytes o (b0 :: b1 :: b2 :: b3 :: rest) = some (decode (assemble o b0 b1 b2 b3), rest)) ∧
    ∀ (o : HostByteOrder) (bs : List Byte), bs.length < 4 → decodeBytes o bs = none

/-! ## Any admissible table (30_encoding.md R46) -/

/-- R46 (a) to (h), as what the block shows under every table it admits. The reading of (b) and (e) is the model's
(DEDUCED, notes/assumptions/14.md): a variable shift may show `s` in the place of `shift`, `jalr` also `d`, and
the coprocessor branch and operation forms show their own operands. -/
def Obligations.AdmissibleTableDecodes : Prop :=
  ∀ (T : DecodeTable) (nm : RegNaming),
    (∀ v w : Word, Extract.function v = 0x00#6 → Extract.function w = 0x00#6 →
      Extract.subfunction v = Extract.subfunction w →
      (decodedOf T nm v).known = (decodedOf T nm w).known ∧ (decodedOf T nm v).op = (decodedOf T nm w).op ∧
        (decodedOf T nm v).shape = (decodedOf T nm w).shape ∧ (decodedOf T nm v).fmt = (decodedOf T nm w).fmt) ∧
    (∀ w : Word, Extract.function w = 0x00#6 → (decodedOf T nm w).known = true →
      (decodedOf T nm w).shape = .R ∧ (decodedOf T nm w).fmt ∈
        [.F_NONE, .F_D_S_T, .F_D_T_SH, .F_D_T_S, .F_S, .F_D_S, .F_D, .F_S_T]) ∧
    (∃ w : Word, Extract.function w = 0x00#6 ∧ (decodedOf T nm w).op = .add) ∧
    (∀ w : Word,
      ((decodedOf T nm w).op ∈ [.add, .addu, .sub, .subu, .and, .or, .xor, .nor, .slt, .sltu] →
        (decodedOf T nm w).operands = [⟨.GPR, (Extract.d w).setWidth 32⟩, ⟨.GPR, (Extract.s w).setWidth 32⟩,
          ⟨.GPR, (Extract.t w).setWidth 32⟩]) ∧
      ((decodedOf T nm w).op ∈ [.sll, .srl, .sra] →
        (decodedOf T nm w).operands = [⟨.GPR, (Extract.d w).setWidth 32⟩, ⟨.GPR, (Extract.t w).setWidth 32⟩,
          ⟨.SHAMT, (Extract.shift w).setWidth 32⟩]) ∧
      ((decodedOf T nm w).op ∈ [.sllv, .srlv, .srav] →
        (decodedOf T nm w).operands = [⟨.GPR, (Extract.d w).setWidth 32⟩, ⟨.GPR, (Extract.t w).setWidth 32⟩,
          ⟨.SHAMT, (Extract.shift w).setWidth 32⟩] ∨
        (decodedOf T nm w).operands = [⟨.GPR, (Extract.d w).setWidth 32⟩, ⟨.GPR, (Extract.t w).setWidth 32⟩,
          ⟨.GPR, (Extract.s w).setWidth 32⟩]) ∧
      ((decodedOf T nm w).op = .jr → (decodedOf T nm w).operands = [⟨.GPR, (Extract.s w).setWidth 32⟩]) ∧
      ((decodedOf T nm w).op = .jalr →
        (decodedOf T nm w).operands = [⟨.GPR, (Extract.s w).setWidth 32⟩] ∨
        (decodedOf T nm w).operands = [⟨.GPR, (Extract.d w).setWidth 32⟩, ⟨.GPR, (Extract.s w).setWidth 32⟩])) ∧
    (decodedOf T nm 0x00000000#32).known = true ∧
    (∀ w : Word, Extract.function w = 0x0F#6 → (decodedOf T nm w).known = true ∧
      ⟨.GPR, (Extract.t w).setWidth 32⟩ ∈ (decodedOf T nm w).operands ∧
        ⟨.IMM_U, (Extract.imm w).setWidth 32⟩ ∈ (decodedOf T nm w).operands) ∧
    (∀ w : Word, (decodedOf T nm w).op ∈
        [.mfc0, .mfc1, .mfc2, .mfc3, .cfc0, .cfc1, .cfc2, .cfc3, .mtc0, .mtc1, .mtc2, .mtc3, .ctc0, .ctc1, .ctc2,
         .ctc3] →
      ((decodedOf T nm w).operands =
          [⟨.GPR, (Extract.t w).setWidth 32⟩, ⟨.CPR_D, (Extract.d w).setWidth 32⟩] ∧
        (decodedOf T nm w).text = (decodedOf T nm w).op.mnemonic ++ " ".toList ++ gpr nm (Extract.t w) ++
          ", ".toList ++ cprd (Extract.copz w) (Extract.d w)) ∨
      ((decodedOf T nm w).operands =
          [⟨.GPR, (Extract.t w).setWidth 32⟩, ⟨.CPR_C, (Extract.d w).setWidth 32⟩] ∧
        (decodedOf T nm w).text = (decodedOf T nm w).op.mnemonic ++ " ".toList ++ gpr nm (Extract.t w) ++
          ", ".toList ++ cprc (Extract.copz w) (Extract.d w))) ∧
    (∀ w : Word, ∀ r ∈ T.rows, w &&& r.mask = r.matchBits → r.shape = .COP →
      (decodedOf T nm w).operands =
          [⟨.GPR, (Extract.t w).setWidth 32⟩, ⟨.CPR_D, (Extract.d w).setWidth 32⟩] ∨
      (decodedOf T nm w).operands =
          [⟨.GPR, (Extract.t w).setWidth 32⟩, ⟨.CPR_C, (Extract.d w).setWidth 32⟩] ∨
      r.op ∉ [.mfc0, .mfc1, .mfc2, .mfc3, .cfc0, .cfc1, .cfc2, .cfc3, .mtc0, .mtc1, .mtc2, .mtc3, .ctc0, .ctc1,
          .ctc2, .ctc3] ∧
        (r.mask = 0xFFFF0000#32 ∧
            (decodedOf T nm w).operands = [⟨.BROFF, Extract.imm_se w⟩] ∨
          r.mask = 0xFFE0003F#32 ∧ (decodedOf T nm w).operands = [] ∨
          r.mask = 0xFE000000#32 ∧
            (decodedOf T nm w).operands = [⟨.COFUN, (Extract.cofun w).setWidth 32⟩])) ∧
    (∀ w : Word, (decodedOf T nm w).shape = .J ∨ (decodedOf T nm w).op ∈ [.j, .jal] →
      (decodedOf T nm w).operands = [⟨.JTARGET, (Extract.imm_jump w).setWidth 32⟩]) ∧
    (∃ w : Word, Extract.function w = 0x00#6 ∧ (decodedOf T nm w).known = false) ∧
    (∃ w : Word, (Extract.function w).toNat ∈ [0x10, 0x11, 0x12, 0x13] ∧ (decodedOf T nm w).known = false) ∧
    (∃ f : BitVec 6, ∀ w : Word, Extract.function w = f → (decodedOf T nm w).known = false) ∧
    ∀ w : Word, (∀ r ∈ T.rows, w &&& r.mask ≠ r.matchBits) →
      decodedOf T nm w =
        { known := false, op := .UNKNOWN, shape := .NONE, fmt := .F_UNK, copz := Extract.copz w, nop := false,
          operands := [], text := "unknown 0x".toList ++ hex8 w }

end
end

