-- ==== Sys2Proof/Laws/Fields.lean ====
section
/-! SUPPORT. The bit-field accessors: how they act on a masked word, on a sum of bits and on the words the encoder
builds, and that a word is its six partitioning fields. -/

namespace Sys2Proof

open Extract

/-! ## A slice of a bitwise operation is the operation on slices -/

@[simp] theorem function_and (w m : Word) : function (w &&& m) = function w &&& function m := by
  simp [function, BitVec.extractLsb'_and]
@[simp] theorem cop_opcode_and (w m : Word) : cop_opcode (w &&& m) = cop_opcode w &&& cop_opcode m := by
  simp [cop_opcode, BitVec.extractLsb'_and]
@[simp] theorem s_and (w m : Word) : s (w &&& m) = s w &&& s m := by simp [s, BitVec.extractLsb'_and]
@[simp] theorem t_and (w m : Word) : t (w &&& m) = t w &&& t m := by simp [t, BitVec.extractLsb'_and]
@[simp] theorem d_and (w m : Word) : d (w &&& m) = d w &&& d m := by simp [d, BitVec.extractLsb'_and]
@[simp] theorem shift_and (w m : Word) : shift (w &&& m) = shift w &&& shift m := by
  simp [shift, BitVec.extractLsb'_and]
@[simp] theorem subfunction_and (w m : Word) : subfunction (w &&& m) = subfunction w &&& subfunction m := by
  simp [subfunction, BitVec.extractLsb'_and]

@[simp] theorem function_or (w m : Word) : function (w ||| m) = function w ||| function m := by
  simp [function, BitVec.extractLsb'_or]
@[simp] theorem cop_opcode_or (w m : Word) : cop_opcode (w ||| m) = cop_opcode w ||| cop_opcode m := by
  simp [cop_opcode, BitVec.extractLsb'_or]
@[simp] theorem s_or (w m : Word) : s (w ||| m) = s w ||| s m := by simp [s, BitVec.extractLsb'_or]
@[simp] theorem t_or (w m : Word) : t (w ||| m) = t w ||| t m := by simp [t, BitVec.extractLsb'_or]
@[simp] theorem d_or (w m : Word) : d (w ||| m) = d w ||| d m := by simp [d, BitVec.extractLsb'_or]
@[simp] theorem shift_or (w m : Word) : shift (w ||| m) = shift w ||| shift m := by
  simp [shift, BitVec.extractLsb'_or]
@[simp] theorem subfunction_or (w m : Word) : subfunction (w ||| m) = subfunction w ||| subfunction m := by
  simp [subfunction, BitVec.extractLsb'_or]

/-- A word is the concatenation of its six partitioning fields (30_encoding.md R38). -/
theorem word_of_fields (w : Word) : w = function w ++ s w ++ t w ++ d w ++ shift w ++ subfunction w := by
  apply BitVec.eq_of_getLsbD_eq
  intro i hi
  simp only [function, s, t, d, shift, subfunction, BitVec.getLsbD_append, BitVec.getLsbD_extractLsb']
  interval_cases i <;> simp

theorem word_ext {v w : Word} (hf : function v = function w) (hs : s v = s w) (ht : t v = t w) (hd : d v = d w)
    (hh : shift v = shift w) (hsf : subfunction v = subfunction w) : v = w := by
  rw [word_of_fields v, word_of_fields w, hf, hs, ht, hd, hh, hsf]

theorem s_eq_cop_opcode (w : Word) : s w = cop_opcode w := rfl

theorem word_ext_imm {v w : Word} (hf : function v = function w) (hs : s v = s w) (ht : t v = t w)
    (hi : imm v = imm w) : v = w := by
  have e (x : Word) : x = function x ++ s x ++ t x ++ imm x := by
    apply BitVec.eq_of_getLsbD_eq
    intro i hi
    simp only [function, s, t, imm, BitVec.getLsbD_append, BitVec.getLsbD_extractLsb']
    interval_cases i <;> simp
  rw [e v, e w, hf, hs, ht, hi]

theorem word_ext_jump {v w : Word} (hf : function v = function w) (hj : imm_jump v = imm_jump w) : v = w := by
  have e (x : Word) : x = function x ++ imm_jump x := by
    apply BitVec.eq_of_getLsbD_eq
    intro i hi
    simp only [function, imm_jump, BitVec.getLsbD_append, BitVec.getLsbD_extractLsb']
    interval_cases i <;> simp
  rw [e v, e w, hf, hj]

theorem word_ext_cofun {v w : Word} (hf : function v = function w) (hb : (cop_opcode v)[4] = (cop_opcode w)[4])
    (hc : cofun v = cofun w) : v = w := by
  have e (x : Word) : x = function x ++ BitVec.ofBool ((cop_opcode x).getLsbD 4) ++ cofun x := by
    apply BitVec.eq_of_getLsbD_eq
    intro i hi
    simp only [function, cop_opcode, cofun, BitVec.getLsbD_append, BitVec.getLsbD_extractLsb']
    interval_cases i <;> simp
  rw [e v, e w, hf, hc, BitVec.getLsbD_eq_getElem (by decide), BitVec.getLsbD_eq_getElem (by decide), hb]

theorem imm_of_fields (w : Word) : imm w = d w ++ shift w ++ subfunction w := by
  apply BitVec.eq_of_getLsbD_eq
  intro i hi
  simp only [imm, d, shift, subfunction, BitVec.getLsbD_append, BitVec.getLsbD_extractLsb']
  interval_cases i <;> simp

theorem imm_jump_of_fields (w : Word) : imm_jump w = s w ++ t w ++ imm w := by
  apply BitVec.eq_of_getLsbD_eq
  intro i hi
  simp only [imm_jump, s, t, imm, BitVec.getLsbD_append, BitVec.getLsbD_extractLsb']
  interval_cases i <;> simp

theorem copz_of_function (w : Word) : copz w = (function w).extractLsb' 0 2 := by
  apply BitVec.eq_of_getLsbD_eq
  intro i hi
  simp only [copz, function, BitVec.getLsbD_extractLsb']
  interval_cases i <;> simp

@[simp] theorem imm_and (w m : Word) : imm (w &&& m) = imm w &&& imm m := by
  simp [imm, BitVec.extractLsb'_and]
@[simp] theorem imm_jump_and (w m : Word) : imm_jump (w &&& m) = imm_jump w &&& imm_jump m := by
  simp [imm_jump, BitVec.extractLsb'_and]
@[simp] theorem cofun_and (w m : Word) : cofun (w &&& m) = cofun w &&& cofun m := by
  simp [cofun, BitVec.extractLsb'_and]
@[simp] theorem copz_and (w m : Word) : copz (w &&& m) = copz w &&& copz m := by
  simp [copz, BitVec.extractLsb'_and]
@[simp] theorem imm_or (w m : Word) : imm (w ||| m) = imm w ||| imm m := by
  simp [imm, BitVec.extractLsb'_or]
@[simp] theorem imm_jump_or (w m : Word) : imm_jump (w ||| m) = imm_jump w ||| imm_jump m := by
  simp [imm_jump, BitVec.extractLsb'_or]
@[simp] theorem cofun_or (w m : Word) : cofun (w ||| m) = cofun w ||| cofun m := by
  simp [cofun, BitVec.extractLsb'_or]
@[simp] theorem copz_or (w m : Word) : copz (w ||| m) = copz w ||| copz m := by
  simp [copz, BitVec.extractLsb'_or]

/-! ## The fields of a word written as a number -/

@[simp] theorem function_ofNat (n : Nat) : function (BitVec.ofNat 32 n) = BitVec.ofNat 6 (n % 2 ^ 32 / 2 ^ 26) := by
  apply BitVec.eq_of_toNat_eq
  simp [function, Nat.shiftRight_eq_div_pow]

@[simp] theorem cop_opcode_ofNat (n : Nat) : cop_opcode (BitVec.ofNat 32 n) = BitVec.ofNat 5 (n % 2 ^ 32 / 2 ^ 21) := by
  apply BitVec.eq_of_toNat_eq
  simp [cop_opcode, Nat.shiftRight_eq_div_pow]

@[simp] theorem s_ofNat (n : Nat) : s (BitVec.ofNat 32 n) = BitVec.ofNat 5 (n % 2 ^ 32 / 2 ^ 21) := by
  apply BitVec.eq_of_toNat_eq
  simp [s, Nat.shiftRight_eq_div_pow]

@[simp] theorem t_ofNat (n : Nat) : t (BitVec.ofNat 32 n) = BitVec.ofNat 5 (n % 2 ^ 32 / 2 ^ 16) := by
  apply BitVec.eq_of_toNat_eq
  simp [t, Nat.shiftRight_eq_div_pow]

@[simp] theorem d_ofNat (n : Nat) : d (BitVec.ofNat 32 n) = BitVec.ofNat 5 (n % 2 ^ 32 / 2 ^ 11) := by
  apply BitVec.eq_of_toNat_eq
  simp [d, Nat.shiftRight_eq_div_pow]

@[simp] theorem shift_ofNat (n : Nat) : shift (BitVec.ofNat 32 n) = BitVec.ofNat 5 (n % 2 ^ 32 / 2 ^ 6) := by
  apply BitVec.eq_of_toNat_eq
  simp [shift, Nat.shiftRight_eq_div_pow]

@[simp] theorem subfunction_ofNat (n : Nat) : subfunction (BitVec.ofNat 32 n) = BitVec.ofNat 6 n := by
  apply BitVec.eq_of_toNat_eq
  simp [subfunction, Nat.shiftRight_eq_div_pow]

@[simp] theorem imm_ofNat (n : Nat) : imm (BitVec.ofNat 32 n) = BitVec.ofNat 16 n := by
  apply BitVec.eq_of_toNat_eq
  simp [imm, Nat.shiftRight_eq_div_pow]

@[simp] theorem imm_jump_ofNat (n : Nat) : imm_jump (BitVec.ofNat 32 n) = BitVec.ofNat 26 n := by
  apply BitVec.eq_of_toNat_eq
  simp [imm_jump, Nat.shiftRight_eq_div_pow]

@[simp] theorem cofun_ofNat (n : Nat) : cofun (BitVec.ofNat 32 n) = BitVec.ofNat 25 n := by
  apply BitVec.eq_of_toNat_eq
  simp [cofun, Nat.shiftRight_eq_div_pow]

@[simp] theorem copz_ofNat (n : Nat) : copz (BitVec.ofNat 32 n) = BitVec.ofNat 2 (n % 2 ^ 32 / 2 ^ 26) := by
  apply BitVec.eq_of_toNat_eq
  simp [copz, Nat.shiftRight_eq_div_pow]

/-! ## The fields of the words the encoder builds -/

@[simp] theorem function_wordR (fs ft fd : RegIdx) (sh : BitVec 5) (sf : BitVec 6) : function (wordR fs ft fd sh sf) = 0x00#6 := by
  apply BitVec.eq_of_getLsbD_eq
  intro i hi
  simp only [function, wordR, BitVec.getLsbD_append, BitVec.getLsbD_extractLsb']
  interval_cases i <;> simp

@[simp] theorem s_wordR (fs ft fd : RegIdx) (sh : BitVec 5) (sf : BitVec 6) : s (wordR fs ft fd sh sf) = fs := by
  apply BitVec.eq_of_getLsbD_eq
  intro i hi
  simp only [s, wordR, BitVec.getLsbD_append, BitVec.getLsbD_extractLsb']
  interval_cases i <;> simp

@[simp] theorem cop_opcode_wordR (fs ft fd : RegIdx) (sh : BitVec 5) (sf : BitVec 6) : cop_opcode (wordR fs ft fd sh sf) = fs := by
  apply BitVec.eq_of_getLsbD_eq
  intro i hi
  simp only [cop_opcode, wordR, BitVec.getLsbD_append, BitVec.getLsbD_extractLsb']
  interval_cases i <;> simp

@[simp] theorem t_wordR (fs ft fd : RegIdx) (sh : BitVec 5) (sf : BitVec 6) : t (wordR fs ft fd sh sf) = ft := by
  apply BitVec.eq_of_getLsbD_eq
  intro i hi
  simp only [t, wordR, BitVec.getLsbD_append, BitVec.getLsbD_extractLsb']
  interval_cases i <;> simp

@[simp] theorem d_wordR (fs ft fd : RegIdx) (sh : BitVec 5) (sf : BitVec 6) : d (wordR fs ft fd sh sf) = fd := by
  apply BitVec.eq_of_getLsbD_eq
  intro i hi
  simp only [d, wordR, BitVec.getLsbD_append, BitVec.getLsbD_extractLsb']
  interval_cases i <;> simp

@[simp] theorem shift_wordR (fs ft fd : RegIdx) (sh : BitVec 5) (sf : BitVec 6) : shift (wordR fs ft fd sh sf) = sh := by
  apply BitVec.eq_of_getLsbD_eq
  intro i hi
  simp only [shift, wordR, BitVec.getLsbD_append, BitVec.getLsbD_extractLsb']
  interval_cases i <;> simp

@[simp] theorem subfunction_wordR (fs ft fd : RegIdx) (sh : BitVec 5) (sf : BitVec 6) : subfunction (wordR fs ft fd sh sf) = sf := by
  apply BitVec.eq_of_getLsbD_eq
  intro i hi
  simp only [subfunction, wordR, BitVec.getLsbD_append, BitVec.getLsbD_extractLsb']
  interval_cases i <;> simp

@[simp] theorem function_wordI (f : BitVec 6) (fs ft : RegIdx) (i : BitVec 16) : function (wordI f fs ft i) = f := by
  apply BitVec.eq_of_getLsbD_eq
  intro i hi
  simp only [function, wordI, BitVec.getLsbD_append, BitVec.getLsbD_extractLsb']
  interval_cases i <;> simp

@[simp] theorem s_wordI (f : BitVec 6) (fs ft : RegIdx) (i : BitVec 16) : s (wordI f fs ft i) = fs := by
  apply BitVec.eq_of_getLsbD_eq
  intro i hi
  simp only [s, wordI, BitVec.getLsbD_append, BitVec.getLsbD_extractLsb']
  interval_cases i <;> simp

@[simp] theorem cop_opcode_wordI (f : BitVec 6) (fs ft : RegIdx) (i : BitVec 16) : cop_opcode (wordI f fs ft i) = fs := by
  apply BitVec.eq_of_getLsbD_eq
  intro i hi
  simp only [cop_opcode, wordI, BitVec.getLsbD_append, BitVec.getLsbD_extractLsb']
  interval_cases i <;> simp

@[simp] theorem t_wordI (f : BitVec 6) (fs ft : RegIdx) (i : BitVec 16) : t (wordI f fs ft i) = ft := by
  apply BitVec.eq_of_getLsbD_eq
  intro i hi
  simp only [t, wordI, BitVec.getLsbD_append, BitVec.getLsbD_extractLsb']
  interval_cases i <;> simp

@[simp] theorem imm_wordI (f : BitVec 6) (fs ft : RegIdx) (i : BitVec 16) : imm (wordI f fs ft i) = i := by
  apply BitVec.eq_of_getLsbD_eq
  intro i hi
  simp only [imm, wordI, BitVec.getLsbD_append, BitVec.getLsbD_extractLsb']
  interval_cases i <;> simp

@[simp] theorem function_wordJ (f : BitVec 6) (j : BitVec 26) : function (wordJ f j) = f := by
  apply BitVec.eq_of_getLsbD_eq
  intro i hi
  simp only [function, wordJ, BitVec.getLsbD_append, BitVec.getLsbD_extractLsb']
  interval_cases i <;> simp

@[simp] theorem imm_jump_wordJ (f : BitVec 6) (j : BitVec 26) : imm_jump (wordJ f j) = j := by
  apply BitVec.eq_of_getLsbD_eq
  intro i hi
  simp only [imm_jump, wordJ, BitVec.getLsbD_append, BitVec.getLsbD_extractLsb']
  interval_cases i <;> simp

@[simp] theorem function_wordC (z : BitVec 2) (co ft fd : BitVec 5) (low : BitVec 11) : function (wordC z co ft fd low) = 0x4#4 ++ z := by
  apply BitVec.eq_of_getLsbD_eq
  intro i hi
  simp only [function, wordC, BitVec.getLsbD_append, BitVec.getLsbD_extractLsb']
  interval_cases i <;> simp

@[simp] theorem cop_opcode_wordC (z : BitVec 2) (co ft fd : BitVec 5) (low : BitVec 11) : cop_opcode (wordC z co ft fd low) = co := by
  apply BitVec.eq_of_getLsbD_eq
  intro i hi
  simp only [cop_opcode, wordC, BitVec.getLsbD_append, BitVec.getLsbD_extractLsb']
  interval_cases i <;> simp

@[simp] theorem s_wordC (z : BitVec 2) (co ft fd : BitVec 5) (low : BitVec 11) : s (wordC z co ft fd low) = co := by
  apply BitVec.eq_of_getLsbD_eq
  intro i hi
  simp only [s, wordC, BitVec.getLsbD_append, BitVec.getLsbD_extractLsb']
  interval_cases i <;> simp

@[simp] theorem t_wordC (z : BitVec 2) (co ft fd : BitVec 5) (low : BitVec 11) : t (wordC z co ft fd low) = ft := by
  apply BitVec.eq_of_getLsbD_eq
  intro i hi
  simp only [t, wordC, BitVec.getLsbD_append, BitVec.getLsbD_extractLsb']
  interval_cases i <;> simp

@[simp] theorem d_wordC (z : BitVec 2) (co ft fd : BitVec 5) (low : BitVec 11) : d (wordC z co ft fd low) = fd := by
  apply BitVec.eq_of_getLsbD_eq
  intro i hi
  simp only [d, wordC, BitVec.getLsbD_append, BitVec.getLsbD_extractLsb']
  interval_cases i <;> simp

@[simp] theorem shift_wordC (z : BitVec 2) (co ft fd : BitVec 5) (low : BitVec 11) :
    shift (wordC z co ft fd low) = low.extractLsb' 6 5 := by
  apply BitVec.eq_of_getLsbD_eq
  intro i hi
  simp only [shift, wordC, BitVec.getLsbD_append, BitVec.getLsbD_extractLsb']
  interval_cases i <;> simp

@[simp] theorem subfunction_wordC (z : BitVec 2) (co ft fd : BitVec 5) (low : BitVec 11) : subfunction (wordC z co ft fd low) = low.extractLsb' 0 6 := by
  apply BitVec.eq_of_getLsbD_eq
  intro i hi
  simp only [subfunction, wordC, BitVec.getLsbD_append, BitVec.getLsbD_extractLsb']
  interval_cases i <;> simp

@[simp] theorem function_wordB (z : BitVec 2) (ft : RegIdx) (i : BitVec 16) : function (wordB z ft i) = 0x4#4 ++ z := by
  apply BitVec.eq_of_getLsbD_eq
  intro i hi
  simp only [function, wordB, BitVec.getLsbD_append, BitVec.getLsbD_extractLsb']
  interval_cases i <;> simp

@[simp] theorem cop_opcode_wordB (z : BitVec 2) (ft : RegIdx) (i : BitVec 16) : cop_opcode (wordB z ft i) = 0x08#5 := by
  apply BitVec.eq_of_getLsbD_eq
  intro i hi
  simp only [cop_opcode, wordB, BitVec.getLsbD_append, BitVec.getLsbD_extractLsb']
  interval_cases i <;> simp

@[simp] theorem s_wordB (z : BitVec 2) (ft : RegIdx) (i : BitVec 16) : s (wordB z ft i) = 0x08#5 := by
  apply BitVec.eq_of_getLsbD_eq
  intro i hi
  simp only [s, wordB, BitVec.getLsbD_append, BitVec.getLsbD_extractLsb']
  interval_cases i <;> simp

@[simp] theorem t_wordB (z : BitVec 2) (ft : RegIdx) (i : BitVec 16) : t (wordB z ft i) = ft := by
  apply BitVec.eq_of_getLsbD_eq
  intro i hi
  simp only [t, wordB, BitVec.getLsbD_append, BitVec.getLsbD_extractLsb']
  interval_cases i <;> simp

@[simp] theorem imm_wordB (z : BitVec 2) (ft : RegIdx) (i : BitVec 16) : imm (wordB z ft i) = i := by
  apply BitVec.eq_of_getLsbD_eq
  intro i hi
  simp only [imm, wordB, BitVec.getLsbD_append, BitVec.getLsbD_extractLsb']
  interval_cases i <;> simp

@[simp] theorem function_wordO (z : BitVec 2) (c : BitVec 25) : function (wordO z c) = 0x4#4 ++ z := by
  apply BitVec.eq_of_getLsbD_eq
  intro i hi
  simp only [function, wordO, BitVec.getLsbD_append, BitVec.getLsbD_extractLsb']
  interval_cases i <;> simp

@[simp] theorem cofun_wordO (z : BitVec 2) (c : BitVec 25) : cofun (wordO z c) = c := by
  apply BitVec.eq_of_getLsbD_eq
  intro i hi
  simp only [cofun, wordO, BitVec.getLsbD_append, BitVec.getLsbD_extractLsb']
  interval_cases i <;> simp

/-- A generic operation has bit 25 set. -/
@[simp] theorem s_wordO_bit25 (z : BitVec 2) (c : BitVec 25) : s (wordO z c) &&& 0x10#5 = 0x10#5 := by
  apply BitVec.eq_of_getLsbD_eq
  intro i hi
  simp only [s, wordO, BitVec.getLsbD_and, BitVec.getLsbD_append, BitVec.getLsbD_extractLsb']
  interval_cases i <;> simp

@[simp] theorem cop_opcode_wordO_bit4 (z : BitVec 2) (c : BitVec 25) : (cop_opcode (wordO z c))[4] = true := by
  rw [← BitVec.getLsbD_eq_getElem]
  simp only [cop_opcode, wordO, BitVec.getLsbD_append, BitVec.getLsbD_extractLsb']
  simp

end Sys2Proof
end

