-- ==== Sys2Proof/Laws/Decode.lean ====
section
/-! SUPPORT. The seven sets of examined bits (30_encoding.md R40) as conditions on the fields, and the bits that an
encoding leaves free. -/

namespace Sys2Proof

open Extract

/-- Two words agree under a mask exactly when their six fields agree under the fields of the mask. -/
theorem and_eq_and_iff (v w m : Word) :
    v &&& m = w &&& m ↔
      function v &&& function m = function w &&& function m ∧ s v &&& s m = s w &&& s m ∧
      t v &&& t m = t w &&& t m ∧ d v &&& d m = d w &&& d m ∧ shift v &&& shift m = shift w &&& shift m ∧
      subfunction v &&& subfunction m = subfunction w &&& subfunction m := by
  simp only [← function_and, ← s_and, ← t_and, ← d_and, ← shift_and, ← subfunction_and]
  exact ⟨fun h => by simp [h], fun ⟨a, b, c, e, f, g⟩ => word_ext a b c e f g⟩

@[simp] theorem and_ones5 (x : BitVec 5) : x &&& 31#5 = x := BitVec.and_allOnes
@[simp] theorem and_ones6 (x : BitVec 6) : x &&& 63#6 = x := BitVec.and_allOnes

/-- `function` alone is examined. -/
theorem and_function_iff {w m : Word} (hm : m &&& 0xFC000000#32 = m) :
    w &&& 0xFC000000#32 = m ↔ function w = function m := by
  conv_lhs => rw [← hm]
  rw [and_eq_and_iff]
  simp [show function 0xFC000000#32 = 63#6 from rfl, show s 0xFC000000#32 = 0#5 from rfl, show t 0xFC000000#32 = 0#5
    from rfl, show d 0xFC000000#32 = 0#5 from rfl, show shift 0xFC000000#32 = 0#5 from rfl, show subfunction
    0xFC000000#32 = 0#6 from rfl]

/-- `function` and `subfunction` are examined. -/
theorem and_special_iff {w m : Word} (hm : m &&& 0xFC00003F#32 = m) :
    w &&& 0xFC00003F#32 = m ↔ function w = function m ∧ subfunction w = subfunction m := by
  conv_lhs => rw [← hm]
  rw [and_eq_and_iff]
  simp [show function 0xFC00003F#32 = 63#6 from rfl, show s 0xFC00003F#32 = 0#5 from rfl, show t 0xFC00003F#32 = 0#5
    from rfl, show d 0xFC00003F#32 = 0#5 from rfl, show shift 0xFC00003F#32 = 0#5 from rfl, show subfunction
    0xFC00003F#32 = 63#6 from rfl]

/-- `function` and `t` are examined. -/
theorem and_byT_iff {w m : Word} (hm : m &&& 0xFC1F0000#32 = m) :
    w &&& 0xFC1F0000#32 = m ↔ function w = function m ∧ t w = t m := by
  conv_lhs => rw [← hm]
  rw [and_eq_and_iff]
  simp [show function 0xFC1F0000#32 = 63#6 from rfl, show s 0xFC1F0000#32 = 0#5 from rfl, show t 0xFC1F0000#32 = 31#5
    from rfl, show d 0xFC1F0000#32 = 0#5 from rfl, show shift 0xFC1F0000#32 = 0#5 from rfl, show subfunction
    0xFC1F0000#32 = 0#6 from rfl]

/-- `function` and `cop_opcode` (the bits of `s`) are examined. -/
theorem and_cop_iff {w m : Word} (hm : m &&& 0xFFE00000#32 = m) :
    w &&& 0xFFE00000#32 = m ↔ function w = function m ∧ s w = s m := by
  conv_lhs => rw [← hm]
  rw [and_eq_and_iff]
  simp [show function 0xFFE00000#32 = 63#6 from rfl, show s 0xFFE00000#32 = 31#5 from rfl, show t 0xFFE00000#32 = 0#5
    from rfl, show d 0xFFE00000#32 = 0#5 from rfl, show shift 0xFFE00000#32 = 0#5 from rfl, show subfunction
    0xFFE00000#32 = 0#6 from rfl]

/-- `function`, `cop_opcode` and `t` are examined. -/
theorem and_copBranch_iff {w m : Word} (hm : m &&& 0xFFFF0000#32 = m) :
    w &&& 0xFFFF0000#32 = m ↔ function w = function m ∧ s w = s m ∧ t w = t m := by
  conv_lhs => rw [← hm]
  rw [and_eq_and_iff]
  simp [show function 0xFFFF0000#32 = 63#6 from rfl, show s 0xFFFF0000#32 = 31#5 from rfl, show t 0xFFFF0000#32 = 31#5
    from rfl, show d 0xFFFF0000#32 = 0#5 from rfl, show shift 0xFFFF0000#32 = 0#5 from rfl, show subfunction
    0xFFFF0000#32 = 0#6 from rfl]

/-- `function`, `cop_opcode` and `subfunction` are examined. -/
theorem and_cop0_iff {w m : Word} (hm : m &&& 0xFFE0003F#32 = m) :
    w &&& 0xFFE0003F#32 = m ↔ function w = function m ∧ s w = s m ∧ subfunction w = subfunction m := by
  conv_lhs => rw [← hm]
  rw [and_eq_and_iff]
  simp [show function 0xFFE0003F#32 = 63#6 from rfl, show s 0xFFE0003F#32 = 31#5 from rfl, show t 0xFFE0003F#32 = 0#5
    from rfl, show d 0xFFE0003F#32 = 0#5 from rfl, show shift 0xFFE0003F#32 = 0#5 from rfl, show subfunction
    0xFFE0003F#32 = 63#6 from rfl]

/-- `function` and bit 25 are examined. -/
theorem and_operation_iff {w m : Word} (hm : m &&& 0xFE000000#32 = m) :
    w &&& 0xFE000000#32 = m ↔ function w = function m ∧ s w &&& 0x10#5 = s m &&& 0x10#5 := by
  conv_lhs => rw [← hm]
  rw [and_eq_and_iff]
  simp [show function 0xFE000000#32 = 63#6 from rfl, show s 0xFE000000#32 = 16#5 from rfl, show t 0xFE000000#32 = 0#5
    from rfl, show d 0xFE000000#32 = 0#5 from rfl, show shift 0xFE000000#32 = 0#5 from rfl, show subfunction
    0xFE000000#32 = 0#6 from rfl]

/-- A bit that the row neither examines nor shows does not change what the row examines. -/
theorem encodeWith_and_mask (junk : Word) (i : Instr) (mask : Word) (h : i.freeBits &&& mask = 0#32) :
    encodeWith junk i &&& mask = encode i &&& mask := by
  have e : junk &&& i.freeBits &&& mask = 0#32 := by rw [BitVec.and_assoc, h, BitVec.and_zero]
  rw [encodeWith, BitVec.and_or_distrib_right, e, BitVec.or_zero]

end Sys2Proof
end

