-- ==== Sys2Proof/Laws/State.lean ====
section
/-! SUPPORT. One lemma per field per state update of Machine/Ops.lean and Machine/Step.lean, so that no proof unfolds a
record update. -/

namespace Sys2Proof.Machine

@[simp] theorem State.present_regNaming (st : State) :
    (st.present).regNaming = st.regNaming := rfl

@[simp] theorem State.present_instr_i (st : State) :
    (st.present).instr_i = st.nextWord := rfl

@[simp] theorem State.present_pending (st : State) :
    (st.present).pending = st.pending.tail := rfl

@[simp] theorem State.present_fields (st : State) :
    (st.present).fields = st.fields := rfl

@[simp] theorem State.present_decoded (st : State) :
    (st.present).decoded = st.decoded := rfl

@[simp] theorem State.extract_regNaming (st : State) :
    (st.extract).regNaming = st.regNaming := rfl

@[simp] theorem State.extract_instr_i (st : State) :
    (st.extract).instr_i = st.instr_i := rfl

@[simp] theorem State.extract_pending (st : State) :
    (st.extract).pending = st.pending := rfl

@[simp] theorem State.extract_fields (st : State) :
    (st.extract).fields = fieldsOf st.instr_i := rfl

@[simp] theorem State.extract_decoded_known (st : State) :
    (st.extract).decoded.known = st.decoded.known := rfl

@[simp] theorem State.extract_decoded_op (st : State) :
    (st.extract).decoded.op = st.decoded.op := rfl

@[simp] theorem State.extract_decoded_shape (st : State) :
    (st.extract).decoded.shape = st.decoded.shape := rfl

@[simp] theorem State.extract_decoded_fmt (st : State) :
    (st.extract).decoded.fmt = st.decoded.fmt := rfl

@[simp] theorem State.extract_decoded_copz (st : State) :
    (st.extract).decoded.copz = Extract.copz st.instr_i := rfl

@[simp] theorem State.extract_decoded_nop (st : State) :
    (st.extract).decoded.nop = nopFlag st.instr_i := rfl

@[simp] theorem State.extract_decoded_operands (st : State) :
    (st.extract).decoded.operands = st.decoded.operands := rfl

@[simp] theorem State.extract_decoded_text (st : State) :
    (st.extract).decoded.text = st.decoded.text := rfl

@[simp] theorem State.sample_regNaming (st : State) :
    (st.sample).regNaming = st.regNaming := rfl

@[simp] theorem State.sample_instr_i (st : State) :
    (st.sample).instr_i = st.nextWord := rfl

@[simp] theorem State.sample_pending (st : State) :
    (st.sample).pending = st.pending.tail := rfl

@[simp] theorem State.sample_fields (st : State) :
    (st.sample).fields = fieldsOf st.nextWord := rfl

@[simp] theorem State.sample_decoded_copz (st : State) :
    (st.sample).decoded.copz = Extract.copz st.nextWord := rfl

@[simp] theorem State.sample_decoded_nop (st : State) :
    (st.sample).decoded.nop = nopFlag st.nextWord := rfl

@[simp] theorem State.drive_regNaming (st : State) (op : Op) (shape : Shape) (r : Rendering) :
    (st.drive op shape r).regNaming = st.regNaming := rfl

@[simp] theorem State.drive_instr_i (st : State) (op : Op) (shape : Shape) (r : Rendering) :
    (st.drive op shape r).instr_i = st.instr_i := rfl

@[simp] theorem State.drive_pending (st : State) (op : Op) (shape : Shape) (r : Rendering) :
    (st.drive op shape r).pending = st.pending := rfl

@[simp] theorem State.drive_fields (st : State) (op : Op) (shape : Shape) (r : Rendering) :
    (st.drive op shape r).fields = st.fields := rfl

@[simp] theorem State.drive_decoded_known (st : State) (op : Op) (shape : Shape) (r : Rendering) :
    (st.drive op shape r).decoded.known = true := rfl

@[simp] theorem State.drive_decoded_op (st : State) (op : Op) (shape : Shape) (r : Rendering) :
    (st.drive op shape r).decoded.op = op := rfl

@[simp] theorem State.drive_decoded_shape (st : State) (op : Op) (shape : Shape) (r : Rendering) :
    (st.drive op shape r).decoded.shape = shape := rfl

@[simp] theorem State.drive_decoded_fmt (st : State) (op : Op) (shape : Shape) (r : Rendering) :
    (st.drive op shape r).decoded.fmt = r.fmt := rfl

@[simp] theorem State.drive_decoded_copz (st : State) (op : Op) (shape : Shape) (r : Rendering) :
    (st.drive op shape r).decoded.copz = st.decoded.copz := rfl

@[simp] theorem State.drive_decoded_nop (st : State) (op : Op) (shape : Shape) (r : Rendering) :
    (st.drive op shape r).decoded.nop = st.decoded.nop := rfl

@[simp] theorem State.drive_decoded_operands (st : State) (op : Op) (shape : Shape) (r : Rendering) :
    (st.drive op shape r).decoded.operands = r.operands := rfl

@[simp] theorem State.drive_decoded_text (st : State) (op : Op) (shape : Shape) (r : Rendering) :
    (st.drive op shape r).decoded.text = muxText st.decoded.nop r.text := rfl

@[simp] theorem State.driveUnknown_regNaming (st : State) :
    (st.driveUnknown).regNaming = st.regNaming := rfl

@[simp] theorem State.driveUnknown_instr_i (st : State) :
    (st.driveUnknown).instr_i = st.instr_i := rfl

@[simp] theorem State.driveUnknown_pending (st : State) :
    (st.driveUnknown).pending = st.pending := rfl

@[simp] theorem State.driveUnknown_fields (st : State) :
    (st.driveUnknown).fields = st.fields := rfl

@[simp] theorem State.driveUnknown_decoded_known (st : State) :
    (st.driveUnknown).decoded.known = false := rfl

@[simp] theorem State.driveUnknown_decoded_op (st : State) :
    (st.driveUnknown).decoded.op = .UNKNOWN := rfl

@[simp] theorem State.driveUnknown_decoded_shape (st : State) :
    (st.driveUnknown).decoded.shape = .NONE := rfl

@[simp] theorem State.driveUnknown_decoded_fmt (st : State) :
    (st.driveUnknown).decoded.fmt = .F_UNK := rfl

@[simp] theorem State.driveUnknown_decoded_copz (st : State) :
    (st.driveUnknown).decoded.copz = st.decoded.copz := rfl

@[simp] theorem State.driveUnknown_decoded_nop (st : State) :
    (st.driveUnknown).decoded.nop = st.decoded.nop := rfl

@[simp] theorem State.driveUnknown_decoded_operands (st : State) :
    (st.driveUnknown).decoded.operands = [] := rfl

@[simp] theorem State.driveUnknown_decoded_text (st : State) :
    (st.driveUnknown).decoded.text = "unknown 0x".toList ++ hex8 st.instr_i := rfl

@[simp] theorem State.withFetchWord_regNaming (st : State) (nbits w : Nat) :
    (st.withFetchWord nbits w).regNaming = st.regNaming := rfl

@[simp] theorem State.withFetchWord_instr_i (st : State) (nbits w : Nat) :
    (st.withFetchWord nbits w).instr_i = st.instr_i := rfl

@[simp] theorem State.withFetchWord_pending (st : State) (nbits w : Nat) :
    (st.withFetchWord nbits w).pending = tableWord nbits w :: st.pending := rfl

@[simp] theorem State.withFetchWord_fields (st : State) (nbits w : Nat) :
    (st.withFetchWord nbits w).fields = st.fields := rfl

@[simp] theorem State.withFetchWord_decoded (st : State) (nbits w : Nat) :
    (st.withFetchWord nbits w).decoded = st.decoded := rfl

@[simp] theorem State.withFetchWord_nextWord (st : State) (nbits w : Nat) :
    (st.withFetchWord nbits w).nextWord = tableWord nbits w := rfl

/-- The next word is read from the port and the queue alone. -/
theorem State.nextWord_of_pending_cons (st : State) (w : Word) (ws : List Word) (h : st.pending = w :: ws) :
    st.nextWord = w := by simp [State.nextWord, h]

theorem State.nextWord_of_pending_nil (st : State) (h : st.pending = []) : st.nextWord = st.instr_i := by
  simp [State.nextWord, h]

/-- Two states are equal when their five fields are. -/
theorem State.eq_of_fields {a b : State} (h1 : a.regNaming = b.regNaming) (h2 : a.instr_i = b.instr_i)
    (h3 : a.pending = b.pending) (h4 : a.fields = b.fields) (h5 : a.decoded = b.decoded) : a = b := by
  cases a; cases b; simp_all

end Sys2Proof.Machine
end

