-- ==== Sys2Proof/Laws/Ops.lean ====
section
/-! SUPPORT. What each shared operation, each meaning and a step can do, said once: later proofs cite these and unfold
neither `exec` nor `step`. -/

namespace Sys2Proof.Machine

@[simp] theorem nopFlag_eq_true (w : Word) : nopFlag w = true ↔ w = 0#32 := by simp [nopFlag]

theorem nopFlag_eq_decide (w : Word) : nopFlag w = decide (w = 0#32) := by
  cases h : nopFlag w <;> simp_all [nopFlag]

@[simp] theorem muxText_true (text : Text) : muxText true text = "nop".toList := rfl

@[simp] theorem muxText_false (text : Text) : muxText false text = text := rfl

/-- The presented and extracted state, written out. -/
theorem State.sample_eq (st : State) :
    st.sample =
      { regNaming := st.regNaming, instr_i := st.nextWord, pending := st.pending.tail, fields := fieldsOf st.nextWord,
        decoded := { st.decoded with copz := Extract.copz st.nextWord, nop := nopFlag st.nextWord } } := rfl

/-- A state driven by a renderer, every output written out. -/
theorem State.drive_eq (st : State) (op : Op) (shape : Shape) (r : Rendering) :
    st.drive op shape r =
      { st with decoded := ⟨true, op, shape, r.fmt, st.decoded.copz, st.decoded.nop, r.operands, muxText st.decoded.nop r.text⟩ } :=
  rfl

/-- The unknown outcome, every output written out. -/
theorem State.driveUnknown_eq (st : State) :
    st.driveUnknown =
      { st with decoded := ⟨false, .UNKNOWN, .NONE, .F_UNK, st.decoded.copz, st.decoded.nop, [],
                  "unknown 0x".toList ++ hex8 st.instr_i⟩ } := rfl

/-- Every meaning answers a next state: its own row, one renderer's output, nothing else. -/
theorem exec_drives (i : Instr) (s : State) : ∃ shape r, exec i s = .next (s.drive i.op shape r) := by
  cases i <;> exact ⟨_, _, rfl⟩

/-- What a step that answers a next state has done. -/
theorem step_cases {st t : State} (h : step st = .next t) :
    (∃ i shape r, decode st.nextWord = .row i ∧ exec i st.sample = .next t ∧ t = st.sample.drive i.op shape r) ∨
      (∃ w, decode st.nextWord = .unknown w ∧ t = st.sample.driveUnknown) := by
  unfold step at h
  rw [State.sample_instr_i] at h
  split at h
  · rename_i i hi
    obtain ⟨shape, r, e⟩ := exec_drives i st.sample
    exact .inl ⟨i, shape, r, hi, h, by rw [e] at h; exact (Host.Outcome.next.inj h).symm⟩
  · rename_i w hw
    exact .inr ⟨w, hw, (Host.Outcome.next.inj h).symm⟩

/-- What no outcome of the classifier touches: the naming, the port, the host's queue, and the outputs that are wiring
of the port. -/
theorem step_frame {st t : State} (h : step st = .next t) :
    t.regNaming = st.regNaming ∧ t.instr_i = st.nextWord ∧ t.pending = st.pending.tail ∧
      t.fields = fieldsOf st.nextWord ∧ t.decoded.copz = Extract.copz st.nextWord ∧
      t.decoded.nop = nopFlag st.nextWord := by
  obtain ⟨i, shape, r, -, -, rfl⟩ | ⟨w, -, rfl⟩ := step_cases h <;> simp

end Sys2Proof.Machine
end

