-- ==== Sys2Proof/Laws/PerInstr.lean ====
section
/-! SUPPORT. The family RowMatch: the words of every instruction, whatever stands in the bits its row neither examines
nor shows, lie in that instruction's own row of the table (41_dispatch_render.md R108, 30_encoding.md R40). -/

namespace Sys2Proof.Laws.RowMatch

open Extract

/-- Every word that encodes `i` lies in the row of `i`. -/
def Statement (i : Instr) : Prop :=
  ∀ junk : Word, ∃ r ∈ mipsI, r.op = i.op ∧ r.covers (encodeWith junk i) = true

/-- A row of the table that leaves the free bits alone and covers the plain encoding covers every word. -/
theorem of_encode {i : Instr} (r : Row) (hr : r ∈ mipsI) (ho : r.op = i.op) (hf : i.freeBits &&& r.mask = 0#32)
    (hc : encode i &&& r.mask = r.matchBits) : Statement i := fun junk =>
  ⟨r, hr, ho, by simp [Row.covers, encodeWith_and_mask junk i r.mask hf, hc]⟩

theorem sll (xd xt : RegIdx) (xshift : BitVec 5) : Statement (.sll xd xt xshift) :=
  of_encode ⟨.sll, 0x00000000#32, 0xFC00003F#32, .R, .F_D_T_SH⟩ (by decide) rfl (by simp [Instr.freeBits])
    ((and_special_iff (by decide)).2 (by simp [encode]))

theorem srl (xd xt : RegIdx) (xshift : BitVec 5) : Statement (.srl xd xt xshift) :=
  of_encode ⟨.srl, 0x00000002#32, 0xFC00003F#32, .R, .F_D_T_SH⟩ (by decide) rfl (by simp [Instr.freeBits])
    ((and_special_iff (by decide)).2 (by simp [encode]))

theorem sra (xd xt : RegIdx) (xshift : BitVec 5) : Statement (.sra xd xt xshift) :=
  of_encode ⟨.sra, 0x00000003#32, 0xFC00003F#32, .R, .F_D_T_SH⟩ (by decide) rfl (by simp [Instr.freeBits])
    ((and_special_iff (by decide)).2 (by simp [encode]))

theorem sllv (xd xt xs : RegIdx) : Statement (.sllv xd xt xs) :=
  of_encode ⟨.sllv, 0x00000004#32, 0xFC00003F#32, .R, .F_D_T_S⟩ (by decide) rfl (by simp [Instr.freeBits])
    ((and_special_iff (by decide)).2 (by simp [encode]))

theorem srlv (xd xt xs : RegIdx) : Statement (.srlv xd xt xs) :=
  of_encode ⟨.srlv, 0x00000006#32, 0xFC00003F#32, .R, .F_D_T_S⟩ (by decide) rfl (by simp [Instr.freeBits])
    ((and_special_iff (by decide)).2 (by simp [encode]))

theorem srav (xd xt xs : RegIdx) : Statement (.srav xd xt xs) :=
  of_encode ⟨.srav, 0x00000007#32, 0xFC00003F#32, .R, .F_D_T_S⟩ (by decide) rfl (by simp [Instr.freeBits])
    ((and_special_iff (by decide)).2 (by simp [encode]))

theorem jr (xs : RegIdx) : Statement (.jr xs) :=
  of_encode ⟨.jr, 0x00000008#32, 0xFC00003F#32, .R, .F_S⟩ (by decide) rfl (by simp [Instr.freeBits])
    ((and_special_iff (by decide)).2 (by simp [encode]))

theorem jalr (xd xs : RegIdx) : Statement (.jalr xd xs) :=
  of_encode ⟨.jalr, 0x00000009#32, 0xFC00003F#32, .R, .F_D_S⟩ (by decide) rfl (by simp [Instr.freeBits])
    ((and_special_iff (by decide)).2 (by simp [encode]))

theorem syscall : Statement .syscall :=
  of_encode ⟨.syscall, 0x0000000C#32, 0xFC00003F#32, .R, .F_NONE⟩ (by decide) rfl (by simp [Instr.freeBits])
    ((and_special_iff (by decide)).2 (by simp [encode]))

theorem brk : Statement .brk :=
  of_encode ⟨.brk, 0x0000000D#32, 0xFC00003F#32, .R, .F_NONE⟩ (by decide) rfl (by simp [Instr.freeBits])
    ((and_special_iff (by decide)).2 (by simp [encode]))

theorem mfhi (xd : RegIdx) : Statement (.mfhi xd) :=
  of_encode ⟨.mfhi, 0x00000010#32, 0xFC00003F#32, .R, .F_D⟩ (by decide) rfl (by simp [Instr.freeBits])
    ((and_special_iff (by decide)).2 (by simp [encode]))

theorem mthi (xs : RegIdx) : Statement (.mthi xs) :=
  of_encode ⟨.mthi, 0x00000011#32, 0xFC00003F#32, .R, .F_S⟩ (by decide) rfl (by simp [Instr.freeBits])
    ((and_special_iff (by decide)).2 (by simp [encode]))

theorem mflo (xd : RegIdx) : Statement (.mflo xd) :=
  of_encode ⟨.mflo, 0x00000012#32, 0xFC00003F#32, .R, .F_D⟩ (by decide) rfl (by simp [Instr.freeBits])
    ((and_special_iff (by decide)).2 (by simp [encode]))

theorem mtlo (xs : RegIdx) : Statement (.mtlo xs) :=
  of_encode ⟨.mtlo, 0x00000013#32, 0xFC00003F#32, .R, .F_S⟩ (by decide) rfl (by simp [Instr.freeBits])
    ((and_special_iff (by decide)).2 (by simp [encode]))

theorem mult (xs xt : RegIdx) : Statement (.mult xs xt) :=
  of_encode ⟨.mult, 0x00000018#32, 0xFC00003F#32, .R, .F_S_T⟩ (by decide) rfl (by simp [Instr.freeBits])
    ((and_special_iff (by decide)).2 (by simp [encode]))

theorem multu (xs xt : RegIdx) : Statement (.multu xs xt) :=
  of_encode ⟨.multu, 0x00000019#32, 0xFC00003F#32, .R, .F_S_T⟩ (by decide) rfl (by simp [Instr.freeBits])
    ((and_special_iff (by decide)).2 (by simp [encode]))

theorem div (xs xt : RegIdx) : Statement (.div xs xt) :=
  of_encode ⟨.div, 0x0000001A#32, 0xFC00003F#32, .R, .F_S_T⟩ (by decide) rfl (by simp [Instr.freeBits])
    ((and_special_iff (by decide)).2 (by simp [encode]))

theorem divu (xs xt : RegIdx) : Statement (.divu xs xt) :=
  of_encode ⟨.divu, 0x0000001B#32, 0xFC00003F#32, .R, .F_S_T⟩ (by decide) rfl (by simp [Instr.freeBits])
    ((and_special_iff (by decide)).2 (by simp [encode]))

theorem add (xd xs xt : RegIdx) : Statement (.add xd xs xt) :=
  of_encode ⟨.add, 0x00000020#32, 0xFC00003F#32, .R, .F_D_S_T⟩ (by decide) rfl (by simp [Instr.freeBits])
    ((and_special_iff (by decide)).2 (by simp [encode]))

theorem addu (xd xs xt : RegIdx) : Statement (.addu xd xs xt) :=
  of_encode ⟨.addu, 0x00000021#32, 0xFC00003F#32, .R, .F_D_S_T⟩ (by decide) rfl (by simp [Instr.freeBits])
    ((and_special_iff (by decide)).2 (by simp [encode]))

theorem sub (xd xs xt : RegIdx) : Statement (.sub xd xs xt) :=
  of_encode ⟨.sub, 0x00000022#32, 0xFC00003F#32, .R, .F_D_S_T⟩ (by decide) rfl (by simp [Instr.freeBits])
    ((and_special_iff (by decide)).2 (by simp [encode]))

theorem subu (xd xs xt : RegIdx) : Statement (.subu xd xs xt) :=
  of_encode ⟨.subu, 0x00000023#32, 0xFC00003F#32, .R, .F_D_S_T⟩ (by decide) rfl (by simp [Instr.freeBits])
    ((and_special_iff (by decide)).2 (by simp [encode]))

theorem and (xd xs xt : RegIdx) : Statement (.and xd xs xt) :=
  of_encode ⟨.and, 0x00000024#32, 0xFC00003F#32, .R, .F_D_S_T⟩ (by decide) rfl (by simp [Instr.freeBits])
    ((and_special_iff (by decide)).2 (by simp [encode]))

theorem or (xd xs xt : RegIdx) : Statement (.or xd xs xt) :=
  of_encode ⟨.or, 0x00000025#32, 0xFC00003F#32, .R, .F_D_S_T⟩ (by decide) rfl (by simp [Instr.freeBits])
    ((and_special_iff (by decide)).2 (by simp [encode]))

theorem xor (xd xs xt : RegIdx) : Statement (.xor xd xs xt) :=
  of_encode ⟨.xor, 0x00000026#32, 0xFC00003F#32, .R, .F_D_S_T⟩ (by decide) rfl (by simp [Instr.freeBits])
    ((and_special_iff (by decide)).2 (by simp [encode]))

theorem nor (xd xs xt : RegIdx) : Statement (.nor xd xs xt) :=
  of_encode ⟨.nor, 0x00000027#32, 0xFC00003F#32, .R, .F_D_S_T⟩ (by decide) rfl (by simp [Instr.freeBits])
    ((and_special_iff (by decide)).2 (by simp [encode]))

theorem slt (xd xs xt : RegIdx) : Statement (.slt xd xs xt) :=
  of_encode ⟨.slt, 0x0000002A#32, 0xFC00003F#32, .R, .F_D_S_T⟩ (by decide) rfl (by simp [Instr.freeBits])
    ((and_special_iff (by decide)).2 (by simp [encode]))

theorem sltu (xd xs xt : RegIdx) : Statement (.sltu xd xs xt) :=
  of_encode ⟨.sltu, 0x0000002B#32, 0xFC00003F#32, .R, .F_D_S_T⟩ (by decide) rfl (by simp [Instr.freeBits])
    ((and_special_iff (by decide)).2 (by simp [encode]))

theorem bltz (xs : RegIdx) (ximm : BitVec 16) : Statement (.bltz xs ximm) :=
  of_encode ⟨.bltz, 0x04000000#32, 0xFC1F0000#32, .I, .F_S_BR⟩ (by decide) rfl (by simp [Instr.freeBits])
    ((and_byT_iff (by decide)).2 (by simp [encode]))

theorem bgez (xs : RegIdx) (ximm : BitVec 16) : Statement (.bgez xs ximm) :=
  of_encode ⟨.bgez, 0x04010000#32, 0xFC1F0000#32, .I, .F_S_BR⟩ (by decide) rfl (by simp [Instr.freeBits])
    ((and_byT_iff (by decide)).2 (by simp [encode]))

theorem bltzal (xs : RegIdx) (ximm : BitVec 16) : Statement (.bltzal xs ximm) :=
  of_encode ⟨.bltzal, 0x04100000#32, 0xFC1F0000#32, .I, .F_S_BR⟩ (by decide) rfl (by simp [Instr.freeBits])
    ((and_byT_iff (by decide)).2 (by simp [encode]))

theorem bgezal (xs : RegIdx) (ximm : BitVec 16) : Statement (.bgezal xs ximm) :=
  of_encode ⟨.bgezal, 0x04110000#32, 0xFC1F0000#32, .I, .F_S_BR⟩ (by decide) rfl (by simp [Instr.freeBits])
    ((and_byT_iff (by decide)).2 (by simp [encode]))

theorem j (ximm_jump : BitVec 26) : Statement (.j ximm_jump) :=
  of_encode ⟨.j, 0x08000000#32, 0xFC000000#32, .J, .F_JT⟩ (by decide) rfl (by simp [Instr.freeBits])
    ((and_function_iff (by decide)).2 (by simp [encode]))

theorem jal (ximm_jump : BitVec 26) : Statement (.jal ximm_jump) :=
  of_encode ⟨.jal, 0x0C000000#32, 0xFC000000#32, .J, .F_JT⟩ (by decide) rfl (by simp [Instr.freeBits])
    ((and_function_iff (by decide)).2 (by simp [encode]))

theorem beq (xs xt : RegIdx) (ximm : BitVec 16) : Statement (.beq xs xt ximm) :=
  of_encode ⟨.beq, 0x10000000#32, 0xFC000000#32, .I, .F_S_T_BR⟩ (by decide) rfl (by simp [Instr.freeBits])
    ((and_function_iff (by decide)).2 (by simp [encode]))

theorem bne (xs xt : RegIdx) (ximm : BitVec 16) : Statement (.bne xs xt ximm) :=
  of_encode ⟨.bne, 0x14000000#32, 0xFC000000#32, .I, .F_S_T_BR⟩ (by decide) rfl (by simp [Instr.freeBits])
    ((and_function_iff (by decide)).2 (by simp [encode]))

theorem blez (xs : RegIdx) (ximm : BitVec 16) : Statement (.blez xs ximm) :=
  of_encode ⟨.blez, 0x18000000#32, 0xFC000000#32, .I, .F_S_BR⟩ (by decide) rfl (by simp [Instr.freeBits])
    ((and_function_iff (by decide)).2 (by simp [encode]))

theorem bgtz (xs : RegIdx) (ximm : BitVec 16) : Statement (.bgtz xs ximm) :=
  of_encode ⟨.bgtz, 0x1C000000#32, 0xFC000000#32, .I, .F_S_BR⟩ (by decide) rfl (by simp [Instr.freeBits])
    ((and_function_iff (by decide)).2 (by simp [encode]))

theorem addi (xt xs : RegIdx) (ximm : BitVec 16) : Statement (.addi xt xs ximm) :=
  of_encode ⟨.addi, 0x20000000#32, 0xFC000000#32, .I, .F_T_S_IS⟩ (by decide) rfl (by simp [Instr.freeBits])
    ((and_function_iff (by decide)).2 (by simp [encode]))

theorem addiu (xt xs : RegIdx) (ximm : BitVec 16) : Statement (.addiu xt xs ximm) :=
  of_encode ⟨.addiu, 0x24000000#32, 0xFC000000#32, .I, .F_T_S_IS⟩ (by decide) rfl (by simp [Instr.freeBits])
    ((and_function_iff (by decide)).2 (by simp [encode]))

theorem slti (xt xs : RegIdx) (ximm : BitVec 16) : Statement (.slti xt xs ximm) :=
  of_encode ⟨.slti, 0x28000000#32, 0xFC000000#32, .I, .F_T_S_IS⟩ (by decide) rfl (by simp [Instr.freeBits])
    ((and_function_iff (by decide)).2 (by simp [encode]))

theorem sltiu (xt xs : RegIdx) (ximm : BitVec 16) : Statement (.sltiu xt xs ximm) :=
  of_encode ⟨.sltiu, 0x2C000000#32, 0xFC000000#32, .I, .F_T_S_IS⟩ (by decide) rfl (by simp [Instr.freeBits])
    ((and_function_iff (by decide)).2 (by simp [encode]))

theorem andi (xt xs : RegIdx) (ximm : BitVec 16) : Statement (.andi xt xs ximm) :=
  of_encode ⟨.andi, 0x30000000#32, 0xFC000000#32, .I, .F_T_S_IU⟩ (by decide) rfl (by simp [Instr.freeBits])
    ((and_function_iff (by decide)).2 (by simp [encode]))

theorem ori (xt xs : RegIdx) (ximm : BitVec 16) : Statement (.ori xt xs ximm) :=
  of_encode ⟨.ori, 0x34000000#32, 0xFC000000#32, .I, .F_T_S_IU⟩ (by decide) rfl (by simp [Instr.freeBits])
    ((and_function_iff (by decide)).2 (by simp [encode]))

theorem xori (xt xs : RegIdx) (ximm : BitVec 16) : Statement (.xori xt xs ximm) :=
  of_encode ⟨.xori, 0x38000000#32, 0xFC000000#32, .I, .F_T_S_IU⟩ (by decide) rfl (by simp [Instr.freeBits])
    ((and_function_iff (by decide)).2 (by simp [encode]))

theorem lui (xt : RegIdx) (ximm : BitVec 16) : Statement (.lui xt ximm) :=
  of_encode ⟨.lui, 0x3C000000#32, 0xFC000000#32, .I, .F_T_IU⟩ (by decide) rfl (by simp [Instr.freeBits])
    ((and_function_iff (by decide)).2 (by simp [encode]))

theorem lb (xt : RegIdx) (ximm : BitVec 16) (xs : RegIdx) : Statement (.lb xt ximm xs) :=
  of_encode ⟨.lb, 0x80000000#32, 0xFC000000#32, .I, .F_T_MEM⟩ (by decide) rfl (by simp [Instr.freeBits])
    ((and_function_iff (by decide)).2 (by simp [encode]))

theorem lh (xt : RegIdx) (ximm : BitVec 16) (xs : RegIdx) : Statement (.lh xt ximm xs) :=
  of_encode ⟨.lh, 0x84000000#32, 0xFC000000#32, .I, .F_T_MEM⟩ (by decide) rfl (by simp [Instr.freeBits])
    ((and_function_iff (by decide)).2 (by simp [encode]))

theorem lwl (xt : RegIdx) (ximm : BitVec 16) (xs : RegIdx) : Statement (.lwl xt ximm xs) :=
  of_encode ⟨.lwl, 0x88000000#32, 0xFC000000#32, .I, .F_T_MEM⟩ (by decide) rfl (by simp [Instr.freeBits])
    ((and_function_iff (by decide)).2 (by simp [encode]))

theorem lw (xt : RegIdx) (ximm : BitVec 16) (xs : RegIdx) : Statement (.lw xt ximm xs) :=
  of_encode ⟨.lw, 0x8C000000#32, 0xFC000000#32, .I, .F_T_MEM⟩ (by decide) rfl (by simp [Instr.freeBits])
    ((and_function_iff (by decide)).2 (by simp [encode]))

theorem lbu (xt : RegIdx) (ximm : BitVec 16) (xs : RegIdx) : Statement (.lbu xt ximm xs) :=
  of_encode ⟨.lbu, 0x90000000#32, 0xFC000000#32, .I, .F_T_MEM⟩ (by decide) rfl (by simp [Instr.freeBits])
    ((and_function_iff (by decide)).2 (by simp [encode]))

theorem lhu (xt : RegIdx) (ximm : BitVec 16) (xs : RegIdx) : Statement (.lhu xt ximm xs) :=
  of_encode ⟨.lhu, 0x94000000#32, 0xFC000000#32, .I, .F_T_MEM⟩ (by decide) rfl (by simp [Instr.freeBits])
    ((and_function_iff (by decide)).2 (by simp [encode]))

theorem lwr (xt : RegIdx) (ximm : BitVec 16) (xs : RegIdx) : Statement (.lwr xt ximm xs) :=
  of_encode ⟨.lwr, 0x98000000#32, 0xFC000000#32, .I, .F_T_MEM⟩ (by decide) rfl (by simp [Instr.freeBits])
    ((and_function_iff (by decide)).2 (by simp [encode]))

theorem sb (xt : RegIdx) (ximm : BitVec 16) (xs : RegIdx) : Statement (.sb xt ximm xs) :=
  of_encode ⟨.sb, 0xA0000000#32, 0xFC000000#32, .I, .F_T_MEM⟩ (by decide) rfl (by simp [Instr.freeBits])
    ((and_function_iff (by decide)).2 (by simp [encode]))

theorem sh (xt : RegIdx) (ximm : BitVec 16) (xs : RegIdx) : Statement (.sh xt ximm xs) :=
  of_encode ⟨.sh, 0xA4000000#32, 0xFC000000#32, .I, .F_T_MEM⟩ (by decide) rfl (by simp [Instr.freeBits])
    ((and_function_iff (by decide)).2 (by simp [encode]))

theorem swl (xt : RegIdx) (ximm : BitVec 16) (xs : RegIdx) : Statement (.swl xt ximm xs) :=
  of_encode ⟨.swl, 0xA8000000#32, 0xFC000000#32, .I, .F_T_MEM⟩ (by decide) rfl (by simp [Instr.freeBits])
    ((and_function_iff (by decide)).2 (by simp [encode]))

theorem sw (xt : RegIdx) (ximm : BitVec 16) (xs : RegIdx) : Statement (.sw xt ximm xs) :=
  of_encode ⟨.sw, 0xAC000000#32, 0xFC000000#32, .I, .F_T_MEM⟩ (by decide) rfl (by simp [Instr.freeBits])
    ((and_function_iff (by decide)).2 (by simp [encode]))

theorem swr (xt : RegIdx) (ximm : BitVec 16) (xs : RegIdx) : Statement (.swr xt ximm xs) :=
  of_encode ⟨.swr, 0xB8000000#32, 0xFC000000#32, .I, .F_T_MEM⟩ (by decide) rfl (by simp [Instr.freeBits])
    ((and_function_iff (by decide)).2 (by simp [encode]))

theorem lwc0 (xt : RegIdx) (ximm : BitVec 16) (xs : RegIdx) : Statement (.lwc0 xt ximm xs) :=
  of_encode ⟨.lwc0, 0xC0000000#32, 0xFC000000#32, .I, .F_CT_MEM⟩ (by decide) rfl (by simp [Instr.freeBits])
    ((and_function_iff (by decide)).2 (by simp [encode]))

theorem lwc1 (xt : RegIdx) (ximm : BitVec 16) (xs : RegIdx) : Statement (.lwc1 xt ximm xs) :=
  of_encode ⟨.lwc1, 0xC4000000#32, 0xFC000000#32, .I, .F_CT_MEM⟩ (by decide) rfl (by simp [Instr.freeBits])
    ((and_function_iff (by decide)).2 (by simp [encode]))

theorem lwc2 (xt : RegIdx) (ximm : BitVec 16) (xs : RegIdx) : Statement (.lwc2 xt ximm xs) :=
  of_encode ⟨.lwc2, 0xC8000000#32, 0xFC000000#32, .I, .F_CT_MEM⟩ (by decide) rfl (by simp [Instr.freeBits])
    ((and_function_iff (by decide)).2 (by simp [encode]))

theorem lwc3 (xt : RegIdx) (ximm : BitVec 16) (xs : RegIdx) : Statement (.lwc3 xt ximm xs) :=
  of_encode ⟨.lwc3, 0xCC000000#32, 0xFC000000#32, .I, .F_CT_MEM⟩ (by decide) rfl (by simp [Instr.freeBits])
    ((and_function_iff (by decide)).2 (by simp [encode]))

theorem swc0 (xt : RegIdx) (ximm : BitVec 16) (xs : RegIdx) : Statement (.swc0 xt ximm xs) :=
  of_encode ⟨.swc0, 0xE0000000#32, 0xFC000000#32, .I, .F_CT_MEM⟩ (by decide) rfl (by simp [Instr.freeBits])
    ((and_function_iff (by decide)).2 (by simp [encode]))

theorem swc1 (xt : RegIdx) (ximm : BitVec 16) (xs : RegIdx) : Statement (.swc1 xt ximm xs) :=
  of_encode ⟨.swc1, 0xE4000000#32, 0xFC000000#32, .I, .F_CT_MEM⟩ (by decide) rfl (by simp [Instr.freeBits])
    ((and_function_iff (by decide)).2 (by simp [encode]))

theorem swc2 (xt : RegIdx) (ximm : BitVec 16) (xs : RegIdx) : Statement (.swc2 xt ximm xs) :=
  of_encode ⟨.swc2, 0xE8000000#32, 0xFC000000#32, .I, .F_CT_MEM⟩ (by decide) rfl (by simp [Instr.freeBits])
    ((and_function_iff (by decide)).2 (by simp [encode]))

theorem swc3 (xt : RegIdx) (ximm : BitVec 16) (xs : RegIdx) : Statement (.swc3 xt ximm xs) :=
  of_encode ⟨.swc3, 0xEC000000#32, 0xFC000000#32, .I, .F_CT_MEM⟩ (by decide) rfl (by simp [Instr.freeBits])
    ((and_function_iff (by decide)).2 (by simp [encode]))

theorem mfc0 (xt xd : RegIdx) : Statement (.mfc0 xt xd) :=
  of_encode ⟨.mfc0, 0x40000000#32, 0xFFE00000#32, .COP, .F_T_CD⟩ (by decide) rfl (by simp [Instr.freeBits])
    ((and_cop_iff (by decide)).2 (by simp [encode]))

theorem mfc1 (xt xd : RegIdx) : Statement (.mfc1 xt xd) :=
  of_encode ⟨.mfc1, 0x44000000#32, 0xFFE00000#32, .COP, .F_T_CD⟩ (by decide) rfl (by simp [Instr.freeBits])
    ((and_cop_iff (by decide)).2 (by simp [encode]))

theorem mfc2 (xt xd : RegIdx) : Statement (.mfc2 xt xd) :=
  of_encode ⟨.mfc2, 0x48000000#32, 0xFFE00000#32, .COP, .F_T_CD⟩ (by decide) rfl (by simp [Instr.freeBits])
    ((and_cop_iff (by decide)).2 (by simp [encode]))

theorem mfc3 (xt xd : RegIdx) : Statement (.mfc3 xt xd) :=
  of_encode ⟨.mfc3, 0x4C000000#32, 0xFFE00000#32, .COP, .F_T_CD⟩ (by decide) rfl (by simp [Instr.freeBits])
    ((and_cop_iff (by decide)).2 (by simp [encode]))

theorem cfc0 (xt xd : RegIdx) : Statement (.cfc0 xt xd) :=
  of_encode ⟨.cfc0, 0x40400000#32, 0xFFE00000#32, .COP, .F_T_CC⟩ (by decide) rfl (by simp [Instr.freeBits])
    ((and_cop_iff (by decide)).2 (by simp [encode]))

theorem cfc1 (xt xd : RegIdx) : Statement (.cfc1 xt xd) :=
  of_encode ⟨.cfc1, 0x44400000#32, 0xFFE00000#32, .COP, .F_T_CC⟩ (by decide) rfl (by simp [Instr.freeBits])
    ((and_cop_iff (by decide)).2 (by simp [encode]))

theorem cfc2 (xt xd : RegIdx) : Statement (.cfc2 xt xd) :=
  of_encode ⟨.cfc2, 0x48400000#32, 0xFFE00000#32, .COP, .F_T_CC⟩ (by decide) rfl (by simp [Instr.freeBits])
    ((and_cop_iff (by decide)).2 (by simp [encode]))

theorem cfc3 (xt xd : RegIdx) : Statement (.cfc3 xt xd) :=
  of_encode ⟨.cfc3, 0x4C400000#32, 0xFFE00000#32, .COP, .F_T_CC⟩ (by decide) rfl (by simp [Instr.freeBits])
    ((and_cop_iff (by decide)).2 (by simp [encode]))

theorem mtc0 (xt xd : RegIdx) : Statement (.mtc0 xt xd) :=
  of_encode ⟨.mtc0, 0x40800000#32, 0xFFE00000#32, .COP, .F_T_CD⟩ (by decide) rfl (by simp [Instr.freeBits])
    ((and_cop_iff (by decide)).2 (by simp [encode]))

theorem mtc1 (xt xd : RegIdx) : Statement (.mtc1 xt xd) :=
  of_encode ⟨.mtc1, 0x44800000#32, 0xFFE00000#32, .COP, .F_T_CD⟩ (by decide) rfl (by simp [Instr.freeBits])
    ((and_cop_iff (by decide)).2 (by simp [encode]))

theorem mtc2 (xt xd : RegIdx) : Statement (.mtc2 xt xd) :=
  of_encode ⟨.mtc2, 0x48800000#32, 0xFFE00000#32, .COP, .F_T_CD⟩ (by decide) rfl (by simp [Instr.freeBits])
    ((and_cop_iff (by decide)).2 (by simp [encode]))

theorem mtc3 (xt xd : RegIdx) : Statement (.mtc3 xt xd) :=
  of_encode ⟨.mtc3, 0x4C800000#32, 0xFFE00000#32, .COP, .F_T_CD⟩ (by decide) rfl (by simp [Instr.freeBits])
    ((and_cop_iff (by decide)).2 (by simp [encode]))

theorem ctc0 (xt xd : RegIdx) : Statement (.ctc0 xt xd) :=
  of_encode ⟨.ctc0, 0x40C00000#32, 0xFFE00000#32, .COP, .F_T_CC⟩ (by decide) rfl (by simp [Instr.freeBits])
    ((and_cop_iff (by decide)).2 (by simp [encode]))

theorem ctc1 (xt xd : RegIdx) : Statement (.ctc1 xt xd) :=
  of_encode ⟨.ctc1, 0x44C00000#32, 0xFFE00000#32, .COP, .F_T_CC⟩ (by decide) rfl (by simp [Instr.freeBits])
    ((and_cop_iff (by decide)).2 (by simp [encode]))

theorem ctc2 (xt xd : RegIdx) : Statement (.ctc2 xt xd) :=
  of_encode ⟨.ctc2, 0x48C00000#32, 0xFFE00000#32, .COP, .F_T_CC⟩ (by decide) rfl (by simp [Instr.freeBits])
    ((and_cop_iff (by decide)).2 (by simp [encode]))

theorem ctc3 (xt xd : RegIdx) : Statement (.ctc3 xt xd) :=
  of_encode ⟨.ctc3, 0x4CC00000#32, 0xFFE00000#32, .COP, .F_T_CC⟩ (by decide) rfl (by simp [Instr.freeBits])
    ((and_cop_iff (by decide)).2 (by simp [encode]))

theorem bc0f (ximm : BitVec 16) : Statement (.bc0f ximm) :=
  of_encode ⟨.bc0f, 0x41000000#32, 0xFFFF0000#32, .COP, .F_BR⟩ (by decide) rfl (by simp [Instr.freeBits])
    ((and_copBranch_iff (by decide)).2 (by simp [encode]))

theorem bc1f (ximm : BitVec 16) : Statement (.bc1f ximm) :=
  of_encode ⟨.bc1f, 0x45000000#32, 0xFFFF0000#32, .COP, .F_BR⟩ (by decide) rfl (by simp [Instr.freeBits])
    ((and_copBranch_iff (by decide)).2 (by simp [encode]))

theorem bc2f (ximm : BitVec 16) : Statement (.bc2f ximm) :=
  of_encode ⟨.bc2f, 0x49000000#32, 0xFFFF0000#32, .COP, .F_BR⟩ (by decide) rfl (by simp [Instr.freeBits])
    ((and_copBranch_iff (by decide)).2 (by simp [encode]))

theorem bc3f (ximm : BitVec 16) : Statement (.bc3f ximm) :=
  of_encode ⟨.bc3f, 0x4D000000#32, 0xFFFF0000#32, .COP, .F_BR⟩ (by decide) rfl (by simp [Instr.freeBits])
    ((and_copBranch_iff (by decide)).2 (by simp [encode]))

theorem bc0t (ximm : BitVec 16) : Statement (.bc0t ximm) :=
  of_encode ⟨.bc0t, 0x41010000#32, 0xFFFF0000#32, .COP, .F_BR⟩ (by decide) rfl (by simp [Instr.freeBits])
    ((and_copBranch_iff (by decide)).2 (by simp [encode]))

theorem bc1t (ximm : BitVec 16) : Statement (.bc1t ximm) :=
  of_encode ⟨.bc1t, 0x45010000#32, 0xFFFF0000#32, .COP, .F_BR⟩ (by decide) rfl (by simp [Instr.freeBits])
    ((and_copBranch_iff (by decide)).2 (by simp [encode]))

theorem bc2t (ximm : BitVec 16) : Statement (.bc2t ximm) :=
  of_encode ⟨.bc2t, 0x49010000#32, 0xFFFF0000#32, .COP, .F_BR⟩ (by decide) rfl (by simp [Instr.freeBits])
    ((and_copBranch_iff (by decide)).2 (by simp [encode]))

theorem bc3t (ximm : BitVec 16) : Statement (.bc3t ximm) :=
  of_encode ⟨.bc3t, 0x4D010000#32, 0xFFFF0000#32, .COP, .F_BR⟩ (by decide) rfl (by simp [Instr.freeBits])
    ((and_copBranch_iff (by decide)).2 (by simp [encode]))

theorem tlbr : Statement .tlbr :=
  of_encode ⟨.tlbr, 0x42000001#32, 0xFFE0003F#32, .COP, .F_NONE⟩ (by decide) rfl (by simp [Instr.freeBits])
    ((and_cop0_iff (by decide)).2 (by simp [encode]))

theorem tlbwi : Statement .tlbwi :=
  of_encode ⟨.tlbwi, 0x42000002#32, 0xFFE0003F#32, .COP, .F_NONE⟩ (by decide) rfl (by simp [Instr.freeBits])
    ((and_cop0_iff (by decide)).2 (by simp [encode]))

theorem tlbwr : Statement .tlbwr :=
  of_encode ⟨.tlbwr, 0x42000006#32, 0xFFE0003F#32, .COP, .F_NONE⟩ (by decide) rfl (by simp [Instr.freeBits])
    ((and_cop0_iff (by decide)).2 (by simp [encode]))

theorem tlbp : Statement .tlbp :=
  of_encode ⟨.tlbp, 0x42000008#32, 0xFFE0003F#32, .COP, .F_NONE⟩ (by decide) rfl (by simp [Instr.freeBits])
    ((and_cop0_iff (by decide)).2 (by simp [encode]))

theorem rfe : Statement .rfe :=
  of_encode ⟨.rfe, 0x42000010#32, 0xFFE0003F#32, .COP, .F_NONE⟩ (by decide) rfl (by simp [Instr.freeBits])
    ((and_cop0_iff (by decide)).2 (by simp [encode]))

theorem cop1 (xcofun : BitVec 25) : Statement (.cop1 xcofun) :=
  of_encode ⟨.cop1, 0x46000000#32, 0xFE000000#32, .COP, .F_COFUN⟩ (by decide) rfl (by simp [Instr.freeBits])
    ((and_operation_iff (by decide)).2 (by simp [encode]))

theorem cop2 (xcofun : BitVec 25) : Statement (.cop2 xcofun) :=
  of_encode ⟨.cop2, 0x4A000000#32, 0xFE000000#32, .COP, .F_COFUN⟩ (by decide) rfl (by simp [Instr.freeBits])
    ((and_operation_iff (by decide)).2 (by simp [encode]))

theorem cop3 (xcofun : BitVec 25) : Statement (.cop3 xcofun) :=
  of_encode ⟨.cop3, 0x4E000000#32, 0xFE000000#32, .COP, .F_COFUN⟩ (by decide) rfl (by simp [Instr.freeBits])
    ((and_operation_iff (by decide)).2 (by simp [encode]))

end Sys2Proof.Laws.RowMatch
end

