-- ==== Sys2Proof/Laws/Table.lean ====
section
/-! SUPPORT. What a decode table gives: the one row that covers a word, and each condition of 30_encoding.md R46 as a
fact about every row of an admissible table. -/

namespace Sys2Proof

open Extract Machine

/-- No word is covered by two disjoint rows. -/
theorem Row.not_both_covers {a b : Row} (h : a.disjoint b = true) {w : Word} (ha : a.covers w = true)
    (hb : b.covers w = true) : False := by
  simp only [Row.disjoint, Row.covers, bne_iff_ne, beq_iff_eq] at h ha hb
  apply h
  rw [← ha, ← hb]
  ext i hi
  simp only [BitVec.getElem_and, BitVec.getElem_xor, BitVec.getElem_zero]
  cases w[i] <;> cases a.mask[i] <;> simp

/-- Among pairwise disjoint rows the search finds the row that covers the word. -/
theorem findRow_of_covers {T : List Row} (hT : pairwiseDisjoint T = true) {w : Word} {r : Row} (hr : r ∈ T)
    (hc : r.covers w = true) : findRow T w = some r := by
  induction T with
  | nil => cases hr
  | cons a T ih =>
    simp only [pairwiseDisjoint, Bool.and_eq_true, List.all_eq_true] at hT
    rcases List.mem_cons.1 hr with rfl | hr
    · simp [findRow, hc]
    · have ha : a.covers w = false := by
        cases e : a.covers w
        · rfl
        · exact (Row.not_both_covers (hT.1 r hr) e hc).elim
      simpa [findRow, List.find?_cons, ha] using ih hT.2 hr

theorem mem_of_findRow {T : List Row} {w : Word} {r : Row} (h : findRow T w = some r) :
    r ∈ T ∧ r.covers w = true :=
  ⟨List.mem_of_find?_eq_some h, List.find?_some (p := fun r : Row => r.covers w) h⟩

theorem findRow_eq_none_iff {T : List Row} {w : Word} :
    findRow T w = none ↔ ∀ r ∈ T, w &&& r.mask ≠ r.matchBits := by
  simp [findRow, Row.covers]

/-- The decoded instruction of a word that a row covers. -/
theorem decodedOfRows_of_findRow {T : List Row} {w : Word} {r : Row} (h : findRow T w = some r) (nm : RegNaming) :
    decodedOfRows T nm w =
      { known := true, op := r.op, shape := r.shape, fmt := (dispatchMux nm r.fmt r.op.mnemonic w).fmt,
        copz := Extract.copz w, nop := nopFlag w, operands := (dispatchMux nm r.fmt r.op.mnemonic w).operands,
        text := muxText (nopFlag w) (dispatchMux nm r.fmt r.op.mnemonic w).text } := by
  simp only [decodedOfRows, h]

/-- The renderer the mux selects puts out its own code. -/
@[simp] theorem dispatchMux_fmt (nm : RegNaming) (fmt : Fmt) (mn : Text) (w : Word) :
    (dispatchMux nm fmt mn w).fmt = fmt := by cases fmt <;> rfl

/-- Every set of examined bits takes in `function` (30_encoding.md R40), so a row covers words of its own `function`
only. -/
theorem Row.wellFormed_function {r : Row} (h : r.wellFormed = true) {w : Word} (hc : r.covers w = true) :
    function w = function r.matchBits := by
  simp only [Row.wellFormed, Bool.and_eq_true, List.contains_iff_mem, examinedMasks, List.mem_cons,
    List.not_mem_nil, or_false] at h
  have hm : function r.mask = 0x3F#6 := by
    rcases h.1.1.1.1 with e | e | e | e | e | e | e <;> rw [e] <;> decide
  simp only [Row.covers, beq_iff_eq] at hc
  rw [← hc, function_and, hm, and_ones6]

theorem Row.wellFormed_shape {r : Row} (h : r.wellFormed = true) :
    r.shape = shapeOfFunction (function r.matchBits) := by
  simp only [Row.wellFormed, Bool.and_eq_true, beq_iff_eq] at h
  exact h.2

namespace DecodeTable

/-- The nine conditions of `Table.admissible`, apart. -/
theorem conditions (T : DecodeTable) :
    (∀ r ∈ T.rows, r.wellFormed = true) ∧ pairwiseDisjoint T.rows = true ∧
      Table.specialBySubfunction T.rows = true ∧ Table.specialOperands T.rows = true ∧
      Table.zeroWord T.rows = true ∧ Table.immediateLoad T.rows = true ∧ Table.coprocessorMoves T.rows = true ∧
      Table.jumps T.rows = true ∧ Table.invalidPatterns T.rows = true := by
  have h := T.admissible
  simp only [Table.admissible, Bool.and_eq_true, List.all_eq_true] at h
  exact ⟨h.1.1.1.1.1.1.1.1, h.1.1.1.1.1.1.1.2, h.1.1.1.1.1.1.2, h.1.1.1.1.1.2, h.1.1.1.1.2, h.1.1.1.2, h.1.1.2,
    h.1.2, h.2⟩

theorem findRow_eq (T : DecodeTable) {w : Word} {r : Row} (hr : r ∈ T.rows) (hc : r.covers w = true) :
    findRow T.rows w = some r := findRow_of_covers T.conditions.2.1 hr hc

/-- R46 (a), of a row. -/
theorem special_row (T : DecodeTable) {r : Row} (hr : r ∈ T.rows) (hf : function r.matchBits = 0x00#6) :
    r.mask = 0xFC00003F#32 ∧ r.shape = .R ∧ r.fmt ∈ registerLayouts := by
  have h := List.all_eq_true.1 T.conditions.2.2.1 r hr
  simpa [hf, and_assoc] using h

/-- R46 (b), of a row. -/
theorem operands_row (T : DecodeTable) {r : Row} (hr : r ∈ T.rows) :
    (r.op ∈ aluOps → r.fmt = .F_D_S_T) ∧ (r.op ∈ shiftOps → r.fmt = .F_D_T_SH) ∧
      (r.op ∈ variableShiftOps → r.fmt = .F_D_T_SH ∨ r.fmt = .F_D_T_S) ∧ (r.op = .jr → r.fmt = .F_S) ∧
      (r.op = .jalr → r.fmt = .F_S ∨ r.fmt = .F_D_S) := by
  have h := T.conditions.2.2.2.1
  simp only [Table.specialOperands, Bool.and_eq_true] at h
  have hr := List.all_eq_true.1 h.2 r hr
  simp only [Bool.and_eq_true, Bool.or_eq_true, Bool.not_eq_true', bne_iff_ne, beq_iff_eq, or_assoc] at hr
  obtain ⟨⟨⟨⟨ha, hs⟩, hv⟩, hj⟩, hl⟩ := hr
  refine ⟨fun m => ha.resolve_left (by simp [m]), fun m => hs.resolve_left (by simp [m]),
    fun m => hv.resolve_left (by simp [m]), fun m => hj.resolve_left (by simp [m]),
    fun m => hl.resolve_left (by simp [m])⟩

/-- R46 (e), of a row. -/
theorem coprocessor_row (T : DecodeTable) {r : Row} (hr : r ∈ T.rows) (hs : r.shape = .COP) :
    (r.fmt = .F_T_CD ∨ r.fmt = .F_T_CC) ∨ (r.op ∉ moveOps ∧
      ((r.mask = 0xFFFF0000#32 ∧ r.fmt = .F_BR) ∨ (r.mask = 0xFFE0003F#32 ∧ r.fmt = .F_NONE) ∨
        (r.mask = 0xFE000000#32 ∧ r.fmt = .F_COFUN))) := by
  have h := T.conditions.2.2.2.2.2.2.1
  simp only [Table.coprocessorMoves, Bool.and_eq_true] at h
  have hr := List.all_eq_true.1 h.2 r hr
  simp only [hs, Fmt.namesCoprocessorRegister, Row.otherCoprocessorForm, Bool.and_eq_true, Bool.or_eq_true] at hr
  simpa [or_assoc] using hr.1

/-- R46 (e), of a row with the name of a move. -/
theorem move_row (T : DecodeTable) {r : Row} (hr : r ∈ T.rows) (ho : r.op ∈ moveOps) :
    r.shape = .COP ∧ (r.fmt = .F_T_CD ∨ r.fmt = .F_T_CC) := by
  have h := T.conditions.2.2.2.2.2.2.1
  simp only [Table.coprocessorMoves, Bool.and_eq_true] at h
  have hm := List.all_eq_true.1 h.2 r hr
  simp only [Bool.and_eq_true, Bool.or_eq_true, Bool.not_eq_true', beq_iff_eq] at hm
  have hs : r.shape = .COP := hm.2.resolve_left (by simp [ho])
  exact ⟨hs, (T.coprocessor_row hr hs).resolve_right fun e => e.1 ho⟩

/-- R46 (f), of a row. -/
theorem jump_row (T : DecodeTable) {r : Row} (hr : r ∈ T.rows) (h : r.shape = .J ∨ r.op ∈ [Op.j, .jal]) :
    r.fmt = .F_JT := by
  have hj := List.all_eq_true.1 T.conditions.2.2.2.2.2.2.2.1 r hr
  simp only [Bool.or_eq_true, Bool.and_eq_true, bne_iff_ne, beq_iff_eq] at hj
  refine hj.resolve_left fun hn => ?_
  rcases h with h | h
  · exact hn.1.1 h
  · rcases List.mem_cons.1 h with e | e
    · exact hn.1.2 e
    · exact hn.2 (List.mem_singleton.1 e)

end DecodeTable

end Sys2Proof
end

