-- ==== Sys2Proof/Laws/Text.lean ====
section
/-! SUPPORT. The digits and numerals of 41_dispatch_render.md R75 to R77: their values, lengths and characters. -/

namespace Sys2Proof.Machine

/-- A digit of a base up to 16 reads back as its value. -/
theorem digitValue_digit (n : Nat) (h : n < 16) : digitValue (digit n) = some n := by
  interval_cases n <;> decide

/-- A digit is a printable character. -/
theorem digit_printable (n : Nat) (h : n < 16) : 0x20 ≤ (digit n).toNat ∧ (digit n).toNat ≤ 0x7E := by
  interval_cases n <;> decide

theorem digit_eq_zero_iff (n : Nat) (h : n < 16) : digit n = '0' ↔ n = 0 := by
  interval_cases n <;> decide

/-- The numeral is put in front of what is already there. -/
theorem numeral_append (base fuel n : Nat) (acc : Text) :
    numeral base fuel n acc = numeral base fuel n [] ++ acc := by
  induction fuel generalizing n acc with
  | zero => rfl
  | succ k ih =>
    unfold numeral
    split
    · rfl
    · rw [ih (n / base) (digit (n % base) :: acc), ih (n / base) [digit (n % base)]]
      simp

/-- With fuel above the number, a numeral of a number below `base ^ k` has at most `k` digits. -/
theorem numeral_length_le (base k fuel n : Nat) (hk : 1 ≤ k) (h : n < base ^ k) :
    (numeral base fuel n []).length ≤ k := by
  induction fuel generalizing n k with
  | zero => exact Nat.zero_le k
  | succ f ih =>
    unfold numeral
    split
    · exact hk
    · rename_i hn
      rw [numeral_append, List.length_append]
      obtain ⟨j, rfl⟩ : ∃ j, k = j + 1 := ⟨k - 1, by omega⟩
      have hj : 1 ≤ j := by
        rcases Nat.eq_zero_or_pos j with rfl | hj
        · simp at h; omega
        · exact hj
      have := ih j (n / base) hj (Nat.div_lt_of_lt_mul (by rw [Nat.pow_succ] at h; rw [Nat.mul_comm]; exact h))
      simp only [List.length_singleton]
      omega

theorem dec_length_le (k v : Nat) (hk : 1 ≤ k) (h : v < 10 ^ k) : (dec v).length ≤ k :=
  numeral_length_le 10 k _ v hk h

theorem hex_length_le (k v : Nat) (hk : 1 ≤ k) (h : v < 16 ^ k) : (hex v).length ≤ k + 2 := by
  have := numeral_length_le 16 k (v + 1) v hk h
  simp only [hex, List.length_cons]
  omega

theorem hexDigits_length (k v : Nat) (acc : Text) : (hexDigits k v acc).length = k + acc.length := by
  induction k generalizing v acc with
  | zero => simp [hexDigits]
  | succ k ih => simp [hexDigits, ih]; omega

@[simp] theorem hex8_length (w : Word) : (hex8 w).length = 8 := hexDigits_length 8 _ []

theorem gpr_length_le (n : RegIdx) :
    2 ≤ (gpr .NUMERIC n).length ∧ (gpr .NUMERIC n).length ≤ 3 ∧ 3 ≤ (gpr .ABI n).length ∧ (gpr .ABI n).length ≤ 5 := by
  revert n
  decide

theorem line_nil (mn : Text) : line mn [] = mn := rfl

theorem line_cons (mn a : Text) (rest : List Text) :
    line mn (a :: rest) = mn ++ ' ' :: joinOperands (a :: rest) := by simp [line]

end Sys2Proof.Machine
end

