-- ==== Sys2Proof/Tests/Slice0.lean ====
section
/-! SUPPORT. Tests. The expected results come from outside the model: words from the column encoding of
spec/opcode_table.json, bit by bit, with every bit that a row neither examines nor shows set to 1; texts from
spec/95_test_vectors.md; well-formedness from the rules named. The witnesses show, for every statement with hypotheses,
a state that meets them. -/

namespace Sys2Proof.Tests

open Sys2Proof Sys2Proof.Machine

/-- The block after reset with one word to be presented. -/
def presenting (nm : RegNaming) (w : Word) : State := { State.reset with regNaming := nm, pending := [w] }

/-- The state a step answers meets the test. -/
def stepMeets (st : State) (p : State → Bool) : Bool :=
  match step st with
  | .next t => p t
  | .fault _ => false
  | .refused _ => false

/-- The word is rendered as this text, under the default naming. -/
def rendered (w : Word) (text : String) : Bool := stepMeets (presenting .NUMERIC w) fun t => t.decoded.text == text.toList

/-! ## Decoding: one word of every row, written out from the encodings of the spec -/

theorem test_decode_special_shift_jump :
    decode 0b000000_11111_01010_00101_11011_000000#32 = .row (.sll 0b00101#5 0b01010#5 0b11011#5) ∧
    decode 0b000000_11111_01010_00101_11011_000010#32 = .row (.srl 0b00101#5 0b01010#5 0b11011#5) ∧
    decode 0b000000_11111_01010_00101_11011_000011#32 = .row (.sra 0b00101#5 0b01010#5 0b11011#5) ∧
    decode 0b000000_10001_01010_00101_11111_000100#32 = .row (.sllv 0b00101#5 0b01010#5 0b10001#5) ∧
    decode 0b000000_10001_01010_00101_11111_000110#32 = .row (.srlv 0b00101#5 0b01010#5 0b10001#5) ∧
    decode 0b000000_10001_01010_00101_11111_000111#32 = .row (.srav 0b00101#5 0b01010#5 0b10001#5) ∧
    decode 0b000000_10001_11111_11111_11111_001000#32 = .row (.jr 0b10001#5) ∧
    decode 0b000000_10001_11111_00101_11111_001001#32 = .row (.jalr 0b00101#5 0b10001#5) ∧
    decode 0b000000_11111_11111_11111_11111_001100#32 = .row (.syscall) ∧
    decode 0b000000_11111_11111_11111_11111_001101#32 = .row (.brk) := by
  decide

theorem test_decode_special_hilo_multiply :
    decode 0b000000_11111_11111_00101_11111_010000#32 = .row (.mfhi 0b00101#5) ∧
    decode 0b000000_10001_11111_11111_11111_010001#32 = .row (.mthi 0b10001#5) ∧
    decode 0b000000_11111_11111_00101_11111_010010#32 = .row (.mflo 0b00101#5) ∧
    decode 0b000000_10001_11111_11111_11111_010011#32 = .row (.mtlo 0b10001#5) ∧
    decode 0b000000_10001_01010_11111_11111_011000#32 = .row (.mult 0b10001#5 0b01010#5) ∧
    decode 0b000000_10001_01010_11111_11111_011001#32 = .row (.multu 0b10001#5 0b01010#5) ∧
    decode 0b000000_10001_01010_11111_11111_011010#32 = .row (.div 0b10001#5 0b01010#5) ∧
    decode 0b000000_10001_01010_11111_11111_011011#32 = .row (.divu 0b10001#5 0b01010#5) := by
  decide

theorem test_decode_special_three_register :
    decode 0b000000_10001_01010_00101_11111_100000#32 = .row (.add 0b00101#5 0b10001#5 0b01010#5) ∧
    decode 0b000000_10001_01010_00101_11111_100001#32 = .row (.addu 0b00101#5 0b10001#5 0b01010#5) ∧
    decode 0b000000_10001_01010_00101_11111_100010#32 = .row (.sub 0b00101#5 0b10001#5 0b01010#5) ∧
    decode 0b000000_10001_01010_00101_11111_100011#32 = .row (.subu 0b00101#5 0b10001#5 0b01010#5) ∧
    decode 0b000000_10001_01010_00101_11111_100100#32 = .row (.and 0b00101#5 0b10001#5 0b01010#5) ∧
    decode 0b000000_10001_01010_00101_11111_100101#32 = .row (.or 0b00101#5 0b10001#5 0b01010#5) ∧
    decode 0b000000_10001_01010_00101_11111_100110#32 = .row (.xor 0b00101#5 0b10001#5 0b01010#5) ∧
    decode 0b000000_10001_01010_00101_11111_100111#32 = .row (.nor 0b00101#5 0b10001#5 0b01010#5) ∧
    decode 0b000000_10001_01010_00101_11111_101010#32 = .row (.slt 0b00101#5 0b10001#5 0b01010#5) ∧
    decode 0b000000_10001_01010_00101_11111_101011#32 = .row (.sltu 0b00101#5 0b10001#5 0b01010#5) := by
  decide

theorem test_decode_branch_jump :
    decode 0b000001_10001_00000_1000011101100101#32 = .row (.bltz 0b10001#5 0b1000011101100101#16) ∧
    decode 0b000001_10001_00001_1000011101100101#32 = .row (.bgez 0b10001#5 0b1000011101100101#16) ∧
    decode 0b000001_10001_10000_1000011101100101#32 = .row (.bltzal 0b10001#5 0b1000011101100101#16) ∧
    decode 0b000001_10001_10001_1000011101100101#32 = .row (.bgezal 0b10001#5 0b1000011101100101#16) ∧
    decode 0b000010_10101001011100001111110001#32 = .row (.j 0b10101001011100001111110001#26) ∧
    decode 0b000011_10101001011100001111110001#32 = .row (.jal 0b10101001011100001111110001#26) ∧
    decode 0b000100_10001_01010_1000011101100101#32 = .row (.beq 0b10001#5 0b01010#5 0b1000011101100101#16) ∧
    decode 0b000101_10001_01010_1000011101100101#32 = .row (.bne 0b10001#5 0b01010#5 0b1000011101100101#16) ∧
    decode 0b000110_10001_11111_1000011101100101#32 = .row (.blez 0b10001#5 0b1000011101100101#16) ∧
    decode 0b000111_10001_11111_1000011101100101#32 = .row (.bgtz 0b10001#5 0b1000011101100101#16) := by
  decide

theorem test_decode_immediate :
    decode 0b001000_10001_01010_1000011101100101#32 = .row (.addi 0b01010#5 0b10001#5 0b1000011101100101#16) ∧
    decode 0b001001_10001_01010_1000011101100101#32 = .row (.addiu 0b01010#5 0b10001#5 0b1000011101100101#16) ∧
    decode 0b001010_10001_01010_1000011101100101#32 = .row (.slti 0b01010#5 0b10001#5 0b1000011101100101#16) ∧
    decode 0b001011_10001_01010_1000011101100101#32 = .row (.sltiu 0b01010#5 0b10001#5 0b1000011101100101#16) ∧
    decode 0b001100_10001_01010_1000011101100101#32 = .row (.andi 0b01010#5 0b10001#5 0b1000011101100101#16) ∧
    decode 0b001101_10001_01010_1000011101100101#32 = .row (.ori 0b01010#5 0b10001#5 0b1000011101100101#16) ∧
    decode 0b001110_10001_01010_1000011101100101#32 = .row (.xori 0b01010#5 0b10001#5 0b1000011101100101#16) ∧
    decode 0b001111_11111_01010_1000011101100101#32 = .row (.lui 0b01010#5 0b1000011101100101#16) := by
  decide

theorem test_decode_load_store :
    decode 0b100000_10001_01010_1000011101100101#32 = .row (.lb 0b01010#5 0b1000011101100101#16 0b10001#5) ∧
    decode 0b100001_10001_01010_1000011101100101#32 = .row (.lh 0b01010#5 0b1000011101100101#16 0b10001#5) ∧
    decode 0b100010_10001_01010_1000011101100101#32 = .row (.lwl 0b01010#5 0b1000011101100101#16 0b10001#5) ∧
    decode 0b100011_10001_01010_1000011101100101#32 = .row (.lw 0b01010#5 0b1000011101100101#16 0b10001#5) ∧
    decode 0b100100_10001_01010_1000011101100101#32 = .row (.lbu 0b01010#5 0b1000011101100101#16 0b10001#5) ∧
    decode 0b100101_10001_01010_1000011101100101#32 = .row (.lhu 0b01010#5 0b1000011101100101#16 0b10001#5) ∧
    decode 0b100110_10001_01010_1000011101100101#32 = .row (.lwr 0b01010#5 0b1000011101100101#16 0b10001#5) ∧
    decode 0b101000_10001_01010_1000011101100101#32 = .row (.sb 0b01010#5 0b1000011101100101#16 0b10001#5) ∧
    decode 0b101001_10001_01010_1000011101100101#32 = .row (.sh 0b01010#5 0b1000011101100101#16 0b10001#5) ∧
    decode 0b101010_10001_01010_1000011101100101#32 = .row (.swl 0b01010#5 0b1000011101100101#16 0b10001#5) ∧
    decode 0b101011_10001_01010_1000011101100101#32 = .row (.sw 0b01010#5 0b1000011101100101#16 0b10001#5) ∧
    decode 0b101110_10001_01010_1000011101100101#32 = .row (.swr 0b01010#5 0b1000011101100101#16 0b10001#5) := by
  decide

theorem test_decode_coprocessor_load_store :
    decode 0b110000_10001_01010_1000011101100101#32 = .row (.lwc0 0b01010#5 0b1000011101100101#16 0b10001#5) ∧
    decode 0b110001_10001_01010_1000011101100101#32 = .row (.lwc1 0b01010#5 0b1000011101100101#16 0b10001#5) ∧
    decode 0b110010_10001_01010_1000011101100101#32 = .row (.lwc2 0b01010#5 0b1000011101100101#16 0b10001#5) ∧
    decode 0b110011_10001_01010_1000011101100101#32 = .row (.lwc3 0b01010#5 0b1000011101100101#16 0b10001#5) ∧
    decode 0b111000_10001_01010_1000011101100101#32 = .row (.swc0 0b01010#5 0b1000011101100101#16 0b10001#5) ∧
    decode 0b111001_10001_01010_1000011101100101#32 = .row (.swc1 0b01010#5 0b1000011101100101#16 0b10001#5) ∧
    decode 0b111010_10001_01010_1000011101100101#32 = .row (.swc2 0b01010#5 0b1000011101100101#16 0b10001#5) ∧
    decode 0b111011_10001_01010_1000011101100101#32 = .row (.swc3 0b01010#5 0b1000011101100101#16 0b10001#5) := by
  decide

theorem test_decode_coprocessor_move :
    decode 0b010000_00000_01010_00101_11111_111111#32 = .row (.mfc0 0b01010#5 0b00101#5) ∧
    decode 0b010001_00000_01010_00101_11111_111111#32 = .row (.mfc1 0b01010#5 0b00101#5) ∧
    decode 0b010010_00000_01010_00101_11111_111111#32 = .row (.mfc2 0b01010#5 0b00101#5) ∧
    decode 0b010011_00000_01010_00101_11111_111111#32 = .row (.mfc3 0b01010#5 0b00101#5) ∧
    decode 0b010000_00010_01010_00101_11111_111111#32 = .row (.cfc0 0b01010#5 0b00101#5) ∧
    decode 0b010001_00010_01010_00101_11111_111111#32 = .row (.cfc1 0b01010#5 0b00101#5) ∧
    decode 0b010010_00010_01010_00101_11111_111111#32 = .row (.cfc2 0b01010#5 0b00101#5) ∧
    decode 0b010011_00010_01010_00101_11111_111111#32 = .row (.cfc3 0b01010#5 0b00101#5) ∧
    decode 0b010000_00100_01010_00101_11111_111111#32 = .row (.mtc0 0b01010#5 0b00101#5) ∧
    decode 0b010001_00100_01010_00101_11111_111111#32 = .row (.mtc1 0b01010#5 0b00101#5) ∧
    decode 0b010010_00100_01010_00101_11111_111111#32 = .row (.mtc2 0b01010#5 0b00101#5) ∧
    decode 0b010011_00100_01010_00101_11111_111111#32 = .row (.mtc3 0b01010#5 0b00101#5) := by
  decide

theorem test_decode_control_branch :
    decode 0b010000_00110_01010_00101_11111_111111#32 = .row (.ctc0 0b01010#5 0b00101#5) ∧
    decode 0b010001_00110_01010_00101_11111_111111#32 = .row (.ctc1 0b01010#5 0b00101#5) ∧
    decode 0b010010_00110_01010_00101_11111_111111#32 = .row (.ctc2 0b01010#5 0b00101#5) ∧
    decode 0b010011_00110_01010_00101_11111_111111#32 = .row (.ctc3 0b01010#5 0b00101#5) ∧
    decode 0b010000_01000_00000_10000_11101_100101#32 = .row (.bc0f 0b1000011101100101#16) ∧
    decode 0b010001_01000_00000_10000_11101_100101#32 = .row (.bc1f 0b1000011101100101#16) ∧
    decode 0b010010_01000_00000_10000_11101_100101#32 = .row (.bc2f 0b1000011101100101#16) ∧
    decode 0b010011_01000_00000_10000_11101_100101#32 = .row (.bc3f 0b1000011101100101#16) ∧
    decode 0b010000_01000_00001_10000_11101_100101#32 = .row (.bc0t 0b1000011101100101#16) ∧
    decode 0b010001_01000_00001_10000_11101_100101#32 = .row (.bc1t 0b1000011101100101#16) ∧
    decode 0b010010_01000_00001_10000_11101_100101#32 = .row (.bc2t 0b1000011101100101#16) ∧
    decode 0b010011_01000_00001_10000_11101_100101#32 = .row (.bc3t 0b1000011101100101#16) := by
  decide

theorem test_decode_operation :
    decode 0b010000_10000_11111_11111_11111_000001#32 = .row (.tlbr) ∧
    decode 0b010000_10000_11111_11111_11111_000010#32 = .row (.tlbwi) ∧
    decode 0b010000_10000_11111_11111_11111_000110#32 = .row (.tlbwr) ∧
    decode 0b010000_10000_11111_11111_11111_001000#32 = .row (.tlbp) ∧
    decode 0b010000_10000_11111_11111_11111_010000#32 = .row (.rfe) ∧
    decode 0b010001_11001_00011_01000_10101_100111#32 = .row (.cop1 0b1001000110100010101100111#25) ∧
    decode 0b010010_11001_00011_01000_10101_100111#32 = .row (.cop2 0b1001000110100010101100111#25) ∧
    decode 0b010011_11001_00011_01000_10101_100111#32 = .row (.cop3 0b1001000110100010101100111#25) := by
  decide

theorem test_decode_unknown :
    [0x0000003F#32, 0x42000000#32, 0x44200000#32, 0xFC000000#32, 0x04020000#32, 0x45020000#32, 0x42200001#32,
      0xBC000000#32, 0x0000000F#32, 0xFFFFFFFF#32].all (fun w => decode w == .unknown w) = true := by
  decide

/-- The table and the classifier read 98 rows each, and the decoder the host asks gives the row of a table word. -/
theorem test_decode_table_word :
    mipsI.length = 98 ∧ decodeTableWord 32 0x00851820 = some (.add 3#5 4#5 5#5) ∧ decodeTableWord 32 0x0000003F = none := by
  decide

/-- 20_memory.md R26: the word 0x3C010001 from its bytes in both orders. -/
theorem test_assemble :
    assemble .BIG 0x3C#8 0x01#8 0x00#8 0x01#8 = 0x3C010001#32 ∧
      assemble .LITTLE 0x01#8 0x00#8 0x01#8 0x3C#8 = 0x3C010001#32 := by
  decide

/-! ## Rendering: spec/95_test_vectors.md, for every row the example and the largest fields -/

theorem test_text_special_shift_jump :
    [(0x00021080#32, "sll $2, $2, 2"),
      (0x001FFFC0#32, "sll $31, $31, 31"),
      (0x00041C02#32, "srl $3, $4, 16"),
      (0x001FFFC2#32, "srl $31, $31, 31"),
      (0x000217C3#32, "sra $2, $2, 31"),
      (0x00A41004#32, "sllv $2, $4, $5"),
      (0x03FFF804#32, "sllv $31, $31, $31"),
      (0x01494006#32, "srlv $8, $9, $10"),
      (0x03FFF806#32, "srlv $31, $31, $31"),
      (0x02518007#32, "srav $16, $17, $18"),
      (0x03FFF807#32, "srav $31, $31, $31"),
      (0x03E00008#32, "jr $31"),
      (0x0040F809#32, "jalr $31, $2"),
      (0x0000000C#32, "syscall"),
      (0x0000000D#32, "break")].all (fun x => rendered x.1 x.2) = true := by
  decide

theorem test_text_special_hilo_multiply :
    [(0x00001810#32, "mfhi $3"),
      (0x0000F810#32, "mfhi $31"),
      (0x00800011#32, "mthi $4"),
      (0x03E00011#32, "mthi $31"),
      (0x00001012#32, "mflo $2"),
      (0x0000F812#32, "mflo $31"),
      (0x00A00013#32, "mtlo $5"),
      (0x03E00013#32, "mtlo $31"),
      (0x00850018#32, "mult $4, $5"),
      (0x03FF0018#32, "mult $31, $31"),
      (0x01090019#32, "multu $8, $9"),
      (0x03FF0019#32, "multu $31, $31"),
      (0x0085001A#32, "div $4, $5"),
      (0x03FF001A#32, "div $31, $31"),
      (0x00C7001B#32, "divu $6, $7"),
      (0x03FF001B#32, "divu $31, $31")].all (fun x => rendered x.1 x.2) = true := by
  decide

theorem test_text_special_three_register :
    [(0x00851820#32, "add $3, $4, $5"),
      (0x03FFF820#32, "add $31, $31, $31"),
      (0x00801021#32, "addu $2, $4, $0"),
      (0x03FFF821#32, "addu $31, $31, $31"),
      (0x012A4022#32, "sub $8, $9, $10"),
      (0x03FFF822#32, "sub $31, $31, $31"),
      (0x00041023#32, "subu $2, $0, $4"),
      (0x03FFF823#32, "subu $31, $31, $31"),
      (0x00431024#32, "and $2, $2, $3"),
      (0x03FFF824#32, "and $31, $31, $31"),
      (0x00022025#32, "or $4, $0, $2"),
      (0x03FFF825#32, "or $31, $31, $31"),
      (0x01084026#32, "xor $8, $8, $8"),
      (0x03FFF826#32, "xor $31, $31, $31"),
      (0x00801027#32, "nor $2, $4, $0"),
      (0x03FFF827#32, "nor $31, $31, $31"),
      (0x0085082A#32, "slt $1, $4, $5"),
      (0x03FFF82A#32, "slt $31, $31, $31"),
      (0x0004102B#32, "sltu $2, $0, $4"),
      (0x03FFF82B#32, "sltu $31, $31, $31")].all (fun x => rendered x.1 x.2) = true := by
  decide

theorem test_text_branch_jump :
    [(0x04800005#32, "bltz $4, 20"),
      (0x07E0FFFF#32, "bltz $31, -4"),
      (0x04810003#32, "bgez $4, 12"),
      (0x07E1FFFF#32, "bgez $31, -4"),
      (0x0610FFF0#32, "bltzal $16, -64"),
      (0x07F0FFFF#32, "bltzal $31, -4"),
      (0x04110010#32, "bgezal $0, 64"),
      (0x07F1FFFF#32, "bgezal $31, -4"),
      (0x08100040#32, "j 0x400100"),
      (0x0BFFFFFF#32, "j 0xffffffc"),
      (0x0C100040#32, "jal 0x400100"),
      (0x0FFFFFFF#32, "jal 0xffffffc"),
      (0x1085000A#32, "beq $4, $5, 40"),
      (0x13FFFFFF#32, "beq $31, $31, -4"),
      (0x14A0FFFB#32, "bne $5, $0, -20"),
      (0x17FFFFFF#32, "bne $31, $31, -4"),
      (0x18807FFF#32, "blez $4, 131068"),
      (0x1C408000#32, "bgtz $2, -131072")].all (fun x => rendered x.1 x.2) = true := by
  decide

theorem test_text_immediate :
    [(0x21280064#32, "addi $8, $9, 100"),
      (0x23FFFFFF#32, "addi $31, $31, -1"),
      (0x27BDFFE8#32, "addiu $29, $29, -24"),
      (0x27FFFFFF#32, "addiu $31, $31, -1"),
      (0x2881000A#32, "slti $1, $4, 10"),
      (0x2BFFFFFF#32, "slti $31, $31, -1"),
      (0x2C81FFFF#32, "sltiu $1, $4, -1"),
      (0x2FFFFFFF#32, "sltiu $31, $31, -1"),
      (0x304200FF#32, "andi $2, $2, 0xff"),
      (0x33FFFFFF#32, "andi $31, $31, 0xffff"),
      (0x3408FFFF#32, "ori $8, $0, 0xffff"),
      (0x37FFFFFF#32, "ori $31, $31, 0xffff"),
      (0x38420001#32, "xori $2, $2, 0x1"),
      (0x3BFFFFFF#32, "xori $31, $31, 0xffff"),
      (0x3C010001#32, "lui $1, 0x1"),
      (0x3C1FFFFF#32, "lui $31, 0xffff")].all (fun x => rendered x.1 x.2) = true := by
  decide

theorem test_text_load_store :
    [(0x80820000#32, "lb $2, 0($4)"),
      (0x83FFFFFF#32, "lb $31, -1($31)"),
      (0x84820002#32, "lh $2, 2($4)"),
      (0x87FFFFFF#32, "lh $31, -1($31)"),
      (0x88820003#32, "lwl $2, 3($4)"),
      (0x8BFFFFFF#32, "lwl $31, -1($31)"),
      (0x8FBF0014#32, "lw $31, 20($29)"),
      (0x9128FFFF#32, "lbu $8, -1($9)"),
      (0x93FFFFFF#32, "lbu $31, -1($31)"),
      (0x97888000#32, "lhu $8, -32768($28)"),
      (0x97FFFFFF#32, "lhu $31, -1($31)"),
      (0x98820000#32, "lwr $2, 0($4)"),
      (0x9BFFFFFF#32, "lwr $31, -1($31)"),
      (0xA0820000#32, "sb $2, 0($4)"),
      (0xA3FFFFFF#32, "sb $31, -1($31)"),
      (0xA482FFFE#32, "sh $2, -2($4)"),
      (0xA7FFFFFF#32, "sh $31, -1($31)"),
      (0xA8A20003#32, "swl $2, 3($5)"),
      (0xABFFFFFF#32, "swl $31, -1($31)"),
      (0xAFBF0014#32, "sw $31, 20($29)"),
      (0xB8A20000#32, "swr $2, 0($5)"),
      (0xBBFFFFFF#32, "swr $31, -1($31)")].all (fun x => rendered x.1 x.2) = true := by
  decide

theorem test_text_coprocessor_load_store :
    [(0xC0810008#32, "lwc0 cop0r1, 8($4)"),
      (0xC3FFFFFF#32, "lwc0 cop0r31, -1($31)"),
      (0xC4810008#32, "lwc1 cop1r1, 8($4)"),
      (0xC7FFFFFF#32, "lwc1 cop1r31, -1($31)"),
      (0xC8810008#32, "lwc2 cop2r1, 8($4)"),
      (0xCBFFFFFF#32, "lwc2 cop2r31, -1($31)"),
      (0xCC810008#32, "lwc3 cop3r1, 8($4)"),
      (0xCFFFFFFF#32, "lwc3 cop3r31, -1($31)"),
      (0xE081FFF8#32, "swc0 cop0r1, -8($4)"),
      (0xE3FFFFFF#32, "swc0 cop0r31, -1($31)"),
      (0xE481FFF8#32, "swc1 cop1r1, -8($4)"),
      (0xE7FFFFFF#32, "swc1 cop1r31, -1($31)"),
      (0xE881FFF8#32, "swc2 cop2r1, -8($4)"),
      (0xEBFFFFFF#32, "swc2 cop2r31, -1($31)"),
      (0xEC81FFF8#32, "swc3 cop3r1, -8($4)"),
      (0xEFFFFFFF#32, "swc3 cop3r31, -1($31)")].all (fun x => rendered x.1 x.2) = true := by
  decide

theorem test_text_coprocessor_move :
    [(0x401A6800#32, "mfc0 $26, cop0r13"),
      (0x401FF800#32, "mfc0 $31, cop0r31"),
      (0x44020000#32, "mfc1 $2, cop1r0"),
      (0x441FF800#32, "mfc1 $31, cop1r31"),
      (0x4802C000#32, "mfc2 $2, cop2r24"),
      (0x481FF800#32, "mfc2 $31, cop2r31"),
      (0x4C020800#32, "mfc3 $2, cop3r1"),
      (0x4C1FF800#32, "mfc3 $31, cop3r31"),
      (0x4042F800#32, "cfc0 $2, cop0c31"),
      (0x4442F800#32, "cfc1 $2, cop1c31"),
      (0x4842F800#32, "cfc2 $2, cop2c31"),
      (0x4C42F800#32, "cfc3 $2, cop3c31"),
      (0x40806000#32, "mtc0 $0, cop0r12"),
      (0x409FF800#32, "mtc0 $31, cop0r31"),
      (0x44842800#32, "mtc1 $4, cop1r5"),
      (0x449FF800#32, "mtc1 $31, cop1r31"),
      (0x48842800#32, "mtc2 $4, cop2r5"),
      (0x489FF800#32, "mtc2 $31, cop2r31"),
      (0x4C842800#32, "mtc3 $4, cop3r5"),
      (0x4C9FF800#32, "mtc3 $31, cop3r31")].all (fun x => rendered x.1 x.2) = true := by
  decide

theorem test_text_control_branch :
    [(0x40C2F800#32, "ctc0 $2, cop0c31"),
      (0x44C2F800#32, "ctc1 $2, cop1c31"),
      (0x48C2F800#32, "ctc2 $2, cop2c31"),
      (0x4CC2F800#32, "ctc3 $2, cop3c31"),
      (0x4100FFFE#32, "bc0f -8"),
      (0x4100FFFF#32, "bc0f -4"),
      (0x4500FFFE#32, "bc1f -8"),
      (0x4500FFFF#32, "bc1f -4"),
      (0x4900FFFE#32, "bc2f -8"),
      (0x4900FFFF#32, "bc2f -4"),
      (0x4D00FFFE#32, "bc3f -8"),
      (0x4D00FFFF#32, "bc3f -4"),
      (0x41010004#32, "bc0t 16"),
      (0x4101FFFF#32, "bc0t -4"),
      (0x45010004#32, "bc1t 16"),
      (0x4501FFFF#32, "bc1t -4"),
      (0x49010004#32, "bc2t 16"),
      (0x4901FFFF#32, "bc2t -4"),
      (0x4D010004#32, "bc3t 16"),
      (0x4D01FFFF#32, "bc3t -4")].all (fun x => rendered x.1 x.2) = true := by
  decide

theorem test_text_operation :
    [(0x42000001#32, "tlbr"),
      (0x42000002#32, "tlbwi"),
      (0x42000006#32, "tlbwr"),
      (0x42000008#32, "tlbp"),
      (0x42000010#32, "rfe"),
      (0x46000000#32, "cop1 0x0"),
      (0x47FFFFFF#32, "cop1 0x1ffffff"),
      (0x4A180001#32, "cop2 0x180001"),
      (0x4BFFFFFF#32, "cop2 0x1ffffff"),
      (0x4FFFFFFF#32, "cop3 0x1ffffff")].all (fun x => rendered x.1 x.2) = true := by
  decide

/-- Immediates at the boundaries of 95_test_vectors.md section 1.1. -/
theorem test_text_boundary_immediates :
    [(0x1C407FFF#32, "bgtz $2, 131068"),
      (0x1C5F8000#32, "bgtz $2, -131072"),
      (0x21287FFF#32, "addi $8, $9, 32767"),
      (0x21288000#32, "addi $8, $9, -32768"),
      (0x33FFFFFF#32, "andi $31, $31, 0xffff")].all (fun x => rendered x.1 x.2) = true := by
  decide

/-- R102: the word 0, and its neighbour with only `s` non-zero. -/
theorem test_nop :
    stepMeets (presenting .NUMERIC 0x00000000#32) (fun t => t.decoded.text == "nop".toList && t.decoded.nop
      && t.decoded.known && t.decoded.op == .sll && t.decoded.fmt == .F_D_T_SH) = true ∧
    stepMeets (presenting .NUMERIC 0x00200000#32) (fun t => t.decoded.text == "sll $0, $0, 0".toList && !t.decoded.nop)
      = true := by
  decide

/-- R208, R213: an unknown word of every branch of the dispatch. -/
theorem test_unknown :
    [(0x0000003F#32, "unknown 0x0000003f"), (0x42000000#32, "unknown 0x42000000"),
      (0x44200000#32, "unknown 0x44200000"), (0xFC000000#32, "unknown 0xfc000000"),
      (0x04020000#32, "unknown 0x04020000"), (0x45020000#32, "unknown 0x45020000")].all
      (fun x => stepMeets (presenting .NUMERIC x.1) fun t => t.decoded.text == x.2.toList && !t.decoded.known
        && t.decoded.op == .UNKNOWN && t.decoded.shape == .NONE && t.decoded.fmt == .F_UNK
        && t.decoded.operands == []) = true := by
  decide

/-- 95_test_vectors.md section 5: the ABI names. -/
theorem test_text_abi :
    [(0x00851820#32, "add $v1, $a0, $a1"),
      (0x27BDFFE8#32, "addiu $sp, $sp, -24"),
      (0x8FBF0014#32, "lw $ra, 20($sp)"),
      (0x03E00008#32, "jr $ra"),
      (0x0040F809#32, "jalr $ra, $v0"),
      (0x3C010001#32, "lui $at, 0x1"),
      (0x40806000#32, "mtc0 $zero, cop0r12"),
      (0xC8810008#32, "lwc2 cop2r1, 8($a0)")].all
      (fun x => stepMeets (presenting .ABI x.1) fun t => t.decoded.text == x.2.toList) = true := by
  decide

/-- 95_test_vectors.md sections 1.1, 1.2 and 2: the field outputs, at the largest word and at 0x8FBF0014. -/
theorem test_fields :
    stepMeets (presenting .NUMERIC 0xFFFFFFFF#32) (fun t => t.fields ==
      ⟨63#6, 31#5, 31#5, 31#5, 31#5, 31#5, 63#6, 65535#16, 0xFFFFFFFF#32, 67108863#26⟩) = true ∧
    stepMeets (presenting .NUMERIC 0x8FBF0014#32) (fun t => t.fields ==
      ⟨0x23#6, 29#5, 29#5, 31#5, 0#5, 0#5, 0x14#6, 0x0014#16, 20#32, 0x3BF0014#26⟩) = true ∧
    [(0x0000#16, 0#32), (0x7FFF#16, 0x00007FFF#32), (0x8000#16, 0xFFFF8000#32), (0xFFFF#16, 0xFFFFFFFF#32)].all
      (fun x => Extract.sext x.1 == x.2) = true := by
  decide

/-- The ports of `lwc2 cop2r1, 8($4)` (R107, R170). -/
theorem test_ports :
    stepMeets (presenting .NUMERIC 0xC8810008#32) (fun t =>
      t.ports.known_o == 1#1 && t.ports.op_o == 61#7 && t.ports.shape_o == 2#3 && t.ports.copz_o == 2#2
        && t.ports.fmt_o == 17#5 && t.ports.nop_o == 0#1 && t.ports.opnd_count_o == 3#2
        && t.ports.opnd_kind_o.toList == [2#4, 5#4, 1#4] && t.ports.opnd_val_o.toList == [1#32, 8#32, 4#32]
        && t.ports.text_len_o == 18#6 && t.ports.text_o.toList.take 4 == [0x6C#8, 0x77#8, 0x63#8, 0x32#8]
        && t.ports.text_o.toList.drop 18 == List.replicate 14 0x00#8) = true := by
  decide

/-! ## Well-formedness: one ill-formed term for every check -/

theorem test_operand_ill_formed :
    [⟨.NONE, 0#32⟩, ⟨.GPR, 32#32⟩, ⟨.CPR_D, 32#32⟩, ⟨.CPR_C, 32#32⟩, ⟨.SHAMT, 32#32⟩, ⟨.IMM_S, 0x8000#32⟩,
      ⟨.IMM_U, 0x10000#32⟩, ⟨.BROFF, 0xFFFF7FFF#32⟩, ⟨.JTARGET, 0x4000000#32⟩, ⟨.COFUN, 0x2000000#32⟩].all
      (fun o : Operand => !o.wellFormed) = true := by
  decide

theorem test_operand_well_formed :
    [⟨.GPR, 31#32⟩, ⟨.CPR_D, 31#32⟩, ⟨.CPR_C, 31#32⟩, ⟨.SHAMT, 31#32⟩, ⟨.IMM_S, 0x7FFF#32⟩, ⟨.IMM_S, 0xFFFF8000#32⟩,
      ⟨.IMM_U, 0xFFFF#32⟩, ⟨.BROFF, 0xFFFFFFFF#32⟩, ⟨.JTARGET, 0x3FFFFFF#32⟩, ⟨.COFUN, 0x1FFFFFF#32⟩].all
      Operand.wellFormed = true := by
  decide

theorem test_operand_list_ill_formed :
    operandsWellFormed (List.replicate 4 ⟨.GPR, 1#32⟩) = false ∧
      operandsWellFormed [⟨.GPR, 1#32⟩, ⟨.GPR, 32#32⟩] = false := by
  decide

/-- A mask that is none of the seven sets, a match bit outside the mask, no instruction, no renderer, a wrong shape. -/
theorem test_row_ill_formed :
    [⟨.j, 0x08000000#32, 0xF8000000#32, .J, .F_JT⟩, ⟨.j, 0x08000001#32, 0xFC000000#32, .J, .F_JT⟩,
      ⟨.UNKNOWN, 0x08000000#32, 0xFC000000#32, .J, .F_JT⟩, ⟨.j, 0x08000000#32, 0xFC000000#32, .J, .F_UNK⟩,
      ⟨.j, 0x08000000#32, 0xFC000000#32, .I, .F_JT⟩].all (fun r : Row => !r.wellFormed) = true := by
  decide

/-- Two rows that one word matches. -/
theorem test_table_not_disjoint :
    pairwiseDisjoint [⟨.beq, 0x10000000#32, 0xFC000000#32, .I, .F_S_T_BR⟩,
      ⟨.bne, 0x10000000#32, 0xFC000000#32, .I, .F_S_T_BR⟩] = false := by
  decide

/-- R46 (a) to (g), each refused by a table without it. -/
theorem test_table_not_admissible :
    [⟨.sll, 0x00000000#32, 0xFC000000#32, .R, .F_D_T_SH⟩, ⟨.sll, 0x00000000#32, 0xFC00003F#32, .I, .F_D_T_SH⟩,
      ⟨.mult, 0x00000018#32, 0xFC00003F#32, .R, .F_JT⟩].all (fun r => !Table.specialBySubfunction [r]) = true ∧
    Table.specialOperands (specialRows.filter fun r => r.op != .add) = false ∧
    [⟨.sub, 0x00000022#32, 0xFC00003F#32, .R, .F_D_T_S⟩, ⟨.srl, 0x00000002#32, 0xFC00003F#32, .R, .F_D_T_S⟩,
      ⟨.jr, 0x00000008#32, 0xFC00003F#32, .R, .F_D_S⟩, ⟨.sllv, 0x00000004#32, 0xFC00003F#32, .R, .F_D_S_T⟩,
      ⟨.jalr, 0x00000009#32, 0xFC00003F#32, .R, .F_D⟩].all
      (fun r => !Table.specialOperands (r :: specialRows.filter fun q => q.op == .add)) = true ∧
    Table.zeroWord (mipsI.drop 1) = false ∧
    Table.immediateLoad (mipsI.filter fun r => r.op != .lui) = false ∧
    Table.immediateLoad [⟨.lui, 0x3C010000#32, 0xFC1F0000#32, .I, .F_T_IU⟩] = false ∧
    Table.immediateLoad [⟨.lui, 0x3C000000#32, 0xFC000000#32, .I, .F_T_S_IS⟩] = false ∧
    Table.coprocessorMoves specialRows = false ∧
    [⟨.mfc0, 0x40000000#32, 0xFFE00000#32, .COP, .F_D_S_T⟩, ⟨.rfe, 0x40200000#32, 0xFFE00000#32, .COP, .F_NONE⟩,
      ⟨.bc0f, 0x41000000#32, 0xFFFF0000#32, .COP, .F_D_S_T⟩, ⟨.rfe, 0x42000010#32, 0xFFE0003F#32, .COP, .F_D_S_T⟩,
      ⟨.cop1, 0x46000000#32, 0xFE000000#32, .COP, .F_D_S_T⟩, ⟨.cop1, 0x44000000#32, 0xFC000000#32, .COP, .F_COFUN⟩,
      ⟨.mtc1, 0x46000000#32, 0xFE000000#32, .COP, .F_COFUN⟩,
      ⟨.mfc0, 0x08000000#32, 0xFC000000#32, .J, .F_T_CD⟩].all
      (fun r => !Table.coprocessorMoves (r :: coprocessorRows)) = true ∧
    Table.jumps [⟨.j, 0x08000000#32, 0xFC000000#32, .J, .F_S⟩] = false ∧
    Table.jumps [⟨.jal, 0x10000000#32, 0xFC000000#32, .I, .F_S_BR⟩] = false ∧
    Table.invalidPatterns [⟨.j, 0x00000000#32, 0x00000000#32, .J, .F_JT⟩] = false ∧
    Table.admissible (mipsI.drop 1) = false := by
  decide

/-! ## Witnesses: states that meet the hypotheses of the statements -/

/-- StepKeepsSettled: the reset state is settled, and its step answers a next state. -/
theorem test_witness_settled : State.reset.Settled ∧ step State.reset = .next State.reset := ⟨by decide, rfl⟩

/-- HistoryIndependence: two states with other outputs and queues, the same next word. -/
theorem test_witness_history :
    ∃ a b : State, a ≠ b ∧ a.regNaming = b.regNaming ∧ a.nextWord = b.nextWord ∧ a.decoded ≠ b.decoded ∧
      a.pending ≠ b.pending :=
  ⟨presenting .NUMERIC 0x00851820#32,
    { State.reset with instr_i := 0x00851820#32, decoded := { State.reset.decoded with nop := false } }, by decide⟩

/-- UnknownLeavesNoTrace: an unknown word, then a known one. -/
theorem test_witness_unknown_first :
    ∃ (st : State) (w v : Word) (rest : List Word), st.pending = w :: v :: rest ∧ recognises mipsI w = false :=
  ⟨{ State.reset with pending := [0x0000003F#32, 0x00851820#32] }, _, _, _, rfl, by decide⟩

/-- StepRunsDecoded, both clauses. -/
theorem test_witness_step_decodes :
    (∃ st p : State, p = st.sample ∧ decode st.nextWord = .row (.add 3#5 4#5 5#5)) ∧
      ∃ st p : State, p = st.sample ∧ decode st.nextWord = .unknown 0xFFFFFFFF#32 :=
  ⟨⟨presenting .NUMERIC 0x00851820#32, _, rfl, by decide⟩, ⟨presenting .NUMERIC 0xFFFFFFFF#32, _, rfl, by decide⟩⟩

/-- KnownIffRow, its last clause: a word in the first and one in the last row. -/
theorem test_witness_rows_cover :
    (0x00000000#32 &&& (mipsI.head (by decide)).mask = (mipsI.head (by decide)).matchBits) ∧
      (0x4FFFFFFF#32 &&& (mipsI.getLast (by decide)).mask = (mipsI.getLast (by decide)).matchBits) := by
  decide

/-- The statements of the rows: every row covers its own match word and that word with all other bits set. -/
theorem test_witness_rows :
    mipsI.all (fun r => (presenting .NUMERIC r.matchBits).nextWord &&& r.mask == r.matchBits
      && (presenting .ABI (r.matchBits ||| ~~~r.mask)).nextWord &&& r.mask == r.matchBits) = true := by
  decide

/-- CoprocessorNumber: a row of each coprocessor. -/
theorem test_witness_coprocessors :
    [(0#2, 0x42000010#32), (1#2, 0x46000000#32), (2#2, 0xC8810008#32), (3#2, 0x4D010000#32)].all
      (fun x => stepMeets (presenting .NUMERIC x.2) fun t => (coprocessorOps x.1).contains t.decoded.op) = true := by
  decide

/-- UnexaminedBits: `add` with another `shift` field, and two unknown words; the clause on the masks, both cases. -/
theorem test_witness_unexamined :
    (∃ a b : State, a.nextWord ≠ b.nextWord ∧
      a.nextWord &&& examinedBits a.nextWord = b.nextWord &&& examinedBits a.nextWord) ∧
    (0x42000000#32 &&& examinedBits 0x42000000#32 = 0x421FFFC0#32 &&& examinedBits 0x42000000#32) ∧
    (∃ r ∈ mipsI, r.op ∈ [Op.cop1, .cop2, .cop3]) ∧ ∃ r ∈ mipsI, r.op ∉ [Op.cop1, .cop2, .cop3] :=
  ⟨⟨presenting .NUMERIC 0x00851820#32, presenting .NUMERIC 0x00851FE0#32, by decide⟩, by decide,
    ⟨⟨.cop1, 0x46000000#32, 0xFE000000#32, .COP, .F_COFUN⟩, by decide⟩,
    ⟨⟨.sll, 0x00000000#32, 0xFC00003F#32, .R, .F_D_T_SH⟩, by decide⟩⟩

/-- AnyTable: a word of no row of the empty table and of the default one, and of a smaller and a larger table. -/
theorem test_witness_any_table :
    (∀ r ∈ ([] : List Row), 1#32 &&& r.mask ≠ r.matchBits) ∧ (∀ r ∈ mipsI, 1#32 &&& r.mask ≠ r.matchBits) ∧
      (∀ r ∈ immediateRows, r ∈ mipsI) ∧ (decodedOfRows immediateRows .NUMERIC 0x3C010001#32).known = true := by
  decide

/-- AdmissibleTableDecodes: two tables that R46 admits; under the default one, a word for each of its clauses. -/
theorem test_witness_admissible_table :
    mipsITable.rows = mipsI ∧ Table.admissible (mipsI.filter fun r => r.op != .xori) = true ∧
    (Extract.function 0x00000000#32 = 0x00#6 ∧ Extract.function 0x03FFFFC0#32 = 0x00#6 ∧
      Extract.subfunction 0x00000000#32 = Extract.subfunction 0x03FFFFC0#32) ∧
    [(Op.add, 0x00000020#32), (.sltu, 0x03FFFFEB#32), (.sll, 0x00000000#32), (.sra, 0x03FFFFC3#32),
      (.sllv, 0x00000004#32), (.srav, 0x03FFFFC7#32), (.jr, 0x03FFFFC8#32), (.jalr, 0x03FFFFC9#32),
      (.mfc0, 0x40000000#32), (.ctc3, 0x4CDFFFFF#32), (.j, 0x08000000#32), (.jal, 0x0FFFFFFF#32)].all (fun x => (decodedOf mipsITable .NUMERIC x.2).op == x.1) = true ∧
    [0x4000FFFF#32, 0x4CDFFFFF#32, 0x4100FFFF#32, 0x42000010#32, 0x421FFFD0#32, 0x46000000#32, 0x4FFFFFFF#32].all
      (fun w => mipsITable.rows.any fun r => w &&& r.mask == r.matchBits && r.shape == .COP) = true ∧
    Extract.function 0x3FFFFFFF#32 = 0x0F#6 ∧ (∀ r ∈ mipsITable.rows, 0xFFFFFFFF#32 &&& r.mask ≠ r.matchBits) := by
  decide

/-- OperandRanges and OperandSlots: a descriptor of every kind at the end of its range, and slots beyond the count. -/
theorem test_witness_operands :
    [(0x001FFFC0#32, ⟨.SHAMT, 31#32⟩), (0x03FFF820#32, ⟨.GPR, 31#32⟩), (0x4080F800#32, ⟨.CPR_D, 31#32⟩),
      (0x48C2F800#32, ⟨.CPR_C, 31#32⟩), (0x21287FFF#32, ⟨.IMM_S, 0x7FFF#32⟩), (0x21288000#32, ⟨.IMM_S, 0xFFFF8000#32⟩),
      (0x33FFFFFF#32, ⟨.IMM_U, 0xFFFF#32⟩), (0x1C407FFF#32, ⟨.BROFF, 0x7FFF#32⟩),
      (0x1C408000#32, ⟨.BROFF, 0xFFFF8000#32⟩), (0x0BFFFFFF#32, ⟨.JTARGET, 0x3FFFFFF#32⟩),
      (0x47FFFFFF#32, ⟨.COFUN, 0x1FFFFFF#32⟩)].all
      (fun (x : Word × Operand) => stepMeets (presenting .NUMERIC x.1) fun t => t.decoded.operands.contains x.2)
      = true ∧
    stepMeets (presenting .NUMERIC 0x0000000C#32) (fun t => t.decoded.operands.length == 0) = true := by
  decide

/-- TextDetermined: two words of one row that differ in a free bit; an unknown word; the word 0. -/
theorem test_witness_text :
    stepMeets (presenting .NUMERIC 0x00851820#32) (fun t => stepMeets (presenting .NUMERIC 0x00851860#32) fun u =>
      t.decoded.known && u.decoded.known && t.decoded.op == u.decoded.op && t.decoded.operands == u.decoded.operands
        && t.decoded.copz == u.decoded.copz && t.decoded.nop == u.decoded.nop) = true ∧
    stepMeets (presenting .NUMERIC 0xFFFFFFFF#32) (fun t => !t.decoded.known) = true ∧
    stepMeets (presenting .NUMERIC 0x00000000#32) (fun t => t.decoded.nop) = true := by
  decide

/-- NopAlias, TextPort, TextLengths: the word 0, and a text that ends before the port does. -/
theorem test_witness_text_port :
    (presenting .NUMERIC 0x00000000#32).nextWord = 0x00000000#32 ∧
    stepMeets (presenting .NUMERIC 0xCFFF8000#32) (fun t => t.decoded.text.length == 25) = true ∧
    stepMeets (presenting .ABI 0xCC1F8000#32) (fun t => t.decoded.text.length == 27) = true := by
  decide

/-- UnknownOutcome, UnknownDistinct, UnknownCarriesWord: the smallest and the largest unknown word; a known word. -/
theorem test_witness_unknown :
    (∀ r ∈ mipsI, (presenting .NUMERIC 0x00000001#32).nextWord &&& r.mask ≠ r.matchBits) ∧
    (∀ r ∈ mipsI, (presenting .ABI 0xFFFFFFFF#32).nextWord &&& r.mask ≠ r.matchBits) ∧
    stepMeets (presenting .NUMERIC 0x00000001#32) (fun t => !t.decoded.known && t.ports.known_o == 0#1) = true ∧
    stepMeets (presenting .NUMERIC 0x00000000#32) (fun t => t.ports.known_o == 1#1) = true := by
  decide

/-- RoundTrip and DecodeThenEncode: a word with free bits set. -/
theorem test_witness_round_trip :
    (presenting .NUMERIC 0x00851FE0#32).nextWord = encodeWith 0xFFFFFFFF#32 (.add 3#5 4#5 5#5) ∧
      decode 0x00851FE0#32 = .row (.add 3#5 4#5 5#5) := by
  decide

/-- HostAssembly: three bytes make no word. -/
theorem test_witness_short_stream : ([0x3C#8, 0x01#8, 0x00#8] : List Byte).length < 4 := by decide

/-- The host's question: the very next step runs the word that `withFetchWord` lays down. -/
theorem test_fetch_word :
    stepMeets (State.reset.withFetchWord 32 0x03E00008) (fun t => t.decoded.text == "jr $31".toList) = true ∧
      stepMeets (State.reset.withFetchWord 32 0x03E00008) (fun t => t.pending == []) = true := by
  decide

end Sys2Proof.Tests
end

/-! PROOFS. The family of 10_state.md: the outputs are a function of the present word and the naming style (R13, R21),
the bounds of the field outputs (R24), and the names of the registers (R15, R73, R74). -/

namespace Sys2Proof.Machine

/-! ## A step, by what the classifier says -/

/-- A step on a word of a row runs that row's meaning. -/
theorem step_of_row {st : State} {i : Instr} (h : decode st.nextWord = .row i) : step st = exec i st.sample := by
  simp only [step, State.sample_instr_i, h]

/-- A step on a word of no row drives the unknown outcome. -/
theorem step_of_unknown {st : State} {w : Word} (h : decode st.nextWord = .unknown w) :
    step st = .next st.sample.driveUnknown := by
  simp only [step, State.sample_instr_i, h, execUnknown]

/-- A step always answers a next state (60_exceptions.md R218). -/
theorem step_answers (st : State) : ∃ t, step st = .next t := by
  cases h : decode st.nextWord with
  | row i =>
    obtain ⟨shape, r, e⟩ := exec_drives i st.sample
    exact ⟨_, (step_of_row h).trans e⟩
  | unknown w => exact ⟨_, step_of_unknown h⟩

/-! ## History independence -/

/-- Of the state it is given, a meaning reads the naming style and `copz` alone to choose what its renderer puts out. -/
theorem exec_same_rendering (i : Instr) {a b : State} (hn : a.regNaming = b.regNaming)
    (hz : a.decoded.copz = b.decoded.copz) :
    ∃ shape r, exec i a = .next (a.drive i.op shape r) ∧ exec i b = .next (b.drive i.op shape r) := by
  obtain ⟨nm, _, _, _, ⟨_, _, _, _, z, _, _, _⟩⟩ := a
  obtain ⟨_, _, _, _, ⟨_, _, _, _, _, _, _, _⟩⟩ := b
  cases hn
  cases hz
  cases i <;> exact ⟨_, _, rfl, rfl⟩

/-- The decoded instruction after a step is a function of the next word and the naming style. -/
theorem step_decoded_congr {a b t u : State} (hn : a.regNaming = b.regNaming) (hw : a.nextWord = b.nextWord)
    (ha : step a = .next t) (hb : step b = .next u) : t.decoded = u.decoded := by
  cases h : decode a.nextWord with
  | row i =>
    obtain ⟨shape, r, ea, eb⟩ := exec_same_rendering i (a := a.sample) (b := b.sample) (by simp [hn]) (by simp [hw])
    rw [step_of_row h, ea] at ha
    rw [step_of_row (hw ▸ h), eb] at hb
    cases ha
    cases hb
    simp [State.drive_eq, hw]
  | unknown w =>
    rw [step_of_unknown h] at ha
    rw [step_of_unknown (hw ▸ h)] at hb
    cases ha
    cases hb
    simp [State.driveUnknown_eq, hw]

/-- The ports show the word, the fields and the decoded instruction, nothing else of the state. -/
theorem State.ports_congr {t u : State} (hi : t.instr_i = u.instr_i) (hf : t.fields = u.fields)
    (hd : t.decoded = u.decoded) : t.ports = u.ports := by
  simp only [State.ports, hi, hf, hd]

/-- Settles O9: both steps present the same word, so what they leave on the outputs agrees part by part. -/
theorem historyIndependence : Obligations.HistoryIndependence := by
  intro a b hn hw
  obtain ⟨t, ha⟩ := step_answers a
  obtain ⟨u, hb⟩ := step_answers b
  obtain ⟨-, hit, -, hft, -, -⟩ := step_frame ha
  obtain ⟨-, hiu, -, hfu, -, -⟩ := step_frame hb
  have hi : t.instr_i = u.instr_i := by rw [hit, hiu, hw]
  have hf : t.fields = u.fields := by rw [hft, hfu, hw]
  have hd : t.decoded = u.decoded := step_decoded_congr hn hw ha hb
  exact ⟨t, u, ha, hb, hf, hd, State.ports_congr hi hf hd⟩

/-! ## The bounds of the field outputs -/

/-- Sign extension keeps the signed value (30_encoding.md R42). -/
theorem imm_se_toInt (w : Word) : (Extract.imm_se w).toInt = (Extract.imm w).toInt :=
  BitVec.toInt_signExtend_of_le (by decide)

/-- R24: `imm_se`, read as a signed number, has the range of a 16-bit one. -/
theorem imm_se_toInt_bounds (w : Word) :
    -32768 ≤ (Extract.imm_se w).toInt ∧ (Extract.imm_se w).toInt ≤ 32767 := by
  have lower := BitVec.le_toInt (Extract.imm w)
  have upper := BitVec.toInt_lt (x := Extract.imm w)
  rw [imm_se_toInt]
  omega

/-- A 32-bit pattern whose signed value has 16 bits lies in the lowest or the highest 2 ^ 15 patterns. -/
theorem toNat_ranges_of_toInt_bounds {v : BitVec 32} (lower : -32768 ≤ v.toInt) (upper : v.toInt ≤ 32767) :
    v.toNat ≤ 32767 ∨ (0xFFFF8000 ≤ v.toNat ∧ v.toNat ≤ 0xFFFFFFFF) := by
  rw [BitVec.toInt_eq_toNat_cond] at lower upper
  split at lower <;> omega

/-- Settles O3: the nine plain fields are bounded by the widths of their ports, `imm_se` by its sign extension. -/
theorem fieldBounds : Obligations.FieldBounds := by
  intro st
  obtain ⟨t, h⟩ := step_answers st
  obtain ⟨-, -, -, hf, -, -⟩ := step_frame h
  have hse : t.ports.imm_se_o = Extract.imm_se st.nextWord := congrArg Fields.imm_se hf
  obtain ⟨lower, upper⟩ := imm_se_toInt_bounds st.nextWord
  rw [← hse] at lower upper
  have ranges := toNat_ranges_of_toInt_bounds lower upper
  refine ⟨t, h, ?_, ?_, ?_, ?_, ?_, ?_, ?_, ?_, ?_, ranges, lower, upper⟩ <;> omega

/-! ## The names of the registers -/

/-- R73: with NUMERIC the name is the number behind a dollar sign. -/
theorem gpr_numeric (n : RegIdx) : gpr .NUMERIC n = "$".toList ++ dec n.toNat := rfl

/-- R15: the ABI names of the 32 registers, in order, are the table itself. -/
theorem map_gpr_abi_range :
    (List.range 32).map (fun n => gpr .ABI (BitVec.ofNat 5 n)) = abiNames.map String.toList := by
  decide

/-- Settles O23: the numeric names and the coprocessor names are spelled by R73 and R74, the ABI names are the table. -/
theorem registerNames : Obligations.RegisterNames :=
  ⟨gpr_numeric, map_gpr_abi_range, fun _ _ => ⟨rfl, rfl⟩⟩

end Sys2Proof.Machine

/-! PROOFS. The family of 30_encoding.md: `imm_se` is the low half of the word sign-extended (R42, R59, R60). -/

namespace Sys2Proof.Machine

/-! ## The immediate and its sign -/

/-- R58: the immediate is the word modulo 2 ^ 16. -/
theorem imm_toNat (w : Word) : (Extract.imm w).toNat = w.toNat % 65536 := by
  simp [Extract.imm]

/-- R42: the sign that is extended is bit 15 of the word. -/
theorem imm_msb (w : Word) : (Extract.imm w).msb = w.getLsbD 15 := by
  simp [Extract.imm, BitVec.msb_eq_getLsbD_last]

/-! ## The forms of R59 and R60 -/

/-- R59: sign extension puts 0xFFFF before an immediate whose sign bit is set, and zeros before any other. -/
theorem imm_se_toNat (w : Word) :
    (Extract.imm_se w).toNat =
      if w.getLsbD 15 = true then 0xFFFF0000 + w.toNat % 65536 else w.toNat % 65536 := by
  rw [Extract.imm_se, Extract.sext, BitVec.toNat_signExtend, imm_msb, BitVec.toNat_setWidth_of_le (by decide),
    imm_toNat]
  split
  · exact Nat.add_comm _ _
  · exact Nat.add_zero _

/-- R60: the low half of `imm_se` is the immediate. -/
theorem imm_se_toNat_mod (w : Word) : (Extract.imm_se w).toNat % 65536 = (Extract.imm w).toNat := by
  rw [imm_se_toNat, imm_toNat]
  split <;> omega

/-- R60: the high half of `imm_se` is sixteen copies of bit 15 of the word. -/
theorem imm_se_getLsbD_high (w : Word) {i : Nat} (lower : 16 ≤ i) (upper : i < 32) :
    (Extract.imm_se w).getLsbD i = w.getLsbD 15 := by
  rw [Extract.imm_se, Extract.sext, BitVec.getLsbD_signExtend, imm_msb, if_neg (by omega)]
  simp [upper]

/-- R60: read as signed, `imm_se` is the immediate, less 2 ^ 16 in the upper half of its range. -/
theorem imm_se_toInt_cases (w : Word) :
    (Extract.imm_se w).toInt =
      if (Extract.imm w).toNat < 32768 then ((Extract.imm w).toNat : Int)
      else ((Extract.imm w).toNat : Int) - 65536 := by
  rw [imm_se_toInt, BitVec.toInt_eq_toNat_cond]
  split <;> split <;> omega

/-- Below 2 ^ 16, flipping bit 15 is adding 2 ^ 15 modulo 2 ^ 16: nothing carries into another bit. -/
theorem xor_signBit (n : Nat) (h : n < 65536) : n ^^^ 0x8000 = (n + 0x8000) % 65536 := by
  have low : (n ^^^ 0x8000) % 2 ^ 15 = n % 2 ^ 15 := by
    rw [Nat.xor_mod_two_pow, Nat.mod_self, Nat.xor_zero]
  have high : (n ^^^ 0x8000) / 2 ^ 15 = n / 2 ^ 15 ^^^ 1 := Nat.xor_div_two_pow
  obtain hn | hn : n / 2 ^ 15 = 0 ∨ n / 2 ^ 15 = 1 := by omega
  all_goals
    simp only [hn, Nat.zero_xor, Nat.xor_self] at high
    omega

/-- R60: sign extension is flipping the sign bit and taking its weight away again, modulo 2 ^ 32. -/
theorem imm_se_eq_xor_sub (w : Word) :
    Extract.imm_se w = ((Extract.imm w).setWidth 32 ^^^ 0x8000#32) - 0x8000#32 := by
  have flip : ((Extract.imm w).setWidth 32 ^^^ 0x8000#32).toNat = ((Extract.imm w).toNat + 0x8000) % 65536 := by
    rw [BitVec.toNat_xor, BitVec.toNat_setWidth_of_le (by decide)]
    exact xor_signBit _ (Extract.imm w).isLt
  have signed := imm_se_toInt_cases w
  rw [BitVec.toInt_eq_toNat_cond] at signed
  apply BitVec.eq_of_toNat_eq
  rw [BitVec.toNat_sub, flip, BitVec.toNat_ofNat]
  split at signed <;> split at signed <;> omega

/-- Settles O2: after a step the ports are the accessors of the next word, and each conjunct is one form of `imm_se`. -/
theorem signExtension : Obligations.SignExtension := by
  intro st
  obtain ⟨t, h⟩ := step_answers st
  obtain ⟨-, -, -, hf, -, -⟩ := step_frame h
  have himm : t.ports.imm_o = Extract.imm st.nextWord := congrArg Fields.imm hf
  have hse : t.ports.imm_se_o = Extract.imm_se st.nextWord := congrArg Fields.imm_se hf
  refine ⟨t, h, ?_⟩
  rw [himm, hse]
  exact ⟨imm_se_toNat _, imm_se_toNat_mod _, fun _ => imm_se_getLsbD_high _, imm_se_toInt_cases _,
    imm_se_eq_xor_sub _⟩

end Sys2Proof.Machine

/-! PROOFS. The family of 40_field_extract.md: each plain field is the slice of the word that its rule gives (R51 to R58,
R61). -/

namespace Sys2Proof.Machine

/-! ## The slices as quotients and remainders -/

/-- The formula of 40_field_extract.md: the slice of `n` bits from bit `lo` on is floor(w / 2 ^ lo) mod 2 ^ n. -/
theorem slice_toNat (w : Word) (lo n : Nat) : (w.extractLsb' lo n).toNat = w.toNat / 2 ^ lo % 2 ^ n := by
  rw [BitVec.extractLsb'_toNat, Nat.shiftRight_eq_div_pow]

/-- A slice from bit 0 on is a remainder of the word. -/
theorem low_slice_toNat (w : Word) (n : Nat) : (w.extractLsb' 0 n).toNat = w.toNat % 2 ^ n := by
  rw [slice_toNat, Nat.pow_zero, Nat.div_one]

/-- R51: `function` is the quotient alone, for no bit of the word lies above the field. -/
theorem function_toNat (w : Word) : (Extract.function w).toNat = w.toNat / 2 ^ 26 := by
  have fits : w.toNat / 2 ^ 26 < 2 ^ 6 := Nat.div_lt_of_lt_mul w.isLt
  rw [Extract.function, slice_toNat, Nat.mod_eq_of_lt fits]

/-- The field ports after a step are wired to the accessors of the word presented. -/
theorem step_fields {st t : State} (h : step st = .next t) : t.fields = fieldsOf st.nextWord := by
  obtain ⟨-, -, -, hf, -, -⟩ := step_frame h
  exact hf

/-- Settles O1: the ports are wired to the accessors of the next word, and each accessor is a slice of it. -/
theorem extractorFields : Obligations.ExtractorFields := by
  intro st
  obtain ⟨t, h⟩ := step_answers st
  refine ⟨t, h, ?_⟩
  simp only [State.ports, step_fields h, fieldsOf]
  exact ⟨function_toNat _, slice_toNat _ 21 5, slice_toNat _ 21 5, slice_toNat _ 16 5, slice_toNat _ 11 5,
    slice_toNat _ 6 5, low_slice_toNat _ 6, imm_toNat _, low_slice_toNat _ 26⟩

end Sys2Proof.Machine


/-! PROOFS. The classifier of 41_dispatch_render.md R65 against the table and against the encoder of R108: the row that
covers a word is the one the classifier finds (R65), and decoding undoes encoding (R108). -/

namespace Sys2Proof

open Extract Machine

/-! ## The arms of the classifier -/

/-- Arm 1. -/
theorem decode_special {w : Word} (hf : function w = 0x00#6) : decode w = decodeSpecial w := by
  simp only [decode, hf]

/-- Arm 3 under `function` = 0x01. -/
theorem decode_byT {w : Word} (hf : function w = 0x01#6) : decode w = decodeByT w := by
  simp only [decode, hf]

/-- The four coprocessors. -/
theorem coprocessor_cases (z : BitVec 2) : z = 0#2 ∨ z = 1#2 ∨ z = 2#2 ∨ z = 3#2 := by
  revert z
  decide

/-! ## Decoding undoes encoding -/

/-- The first half of R108: the classifier reads back the instruction a word encodes, whatever the free bits. -/
theorem decode_encodeWith (junk : Word) (i : Instr) : decode (encodeWith junk i) = .row i := by
  cases i
  case sll | srl | sra | sllv | srlv | srav | jr | jalr | syscall | brk | mfhi | mthi | mflo | mtlo | mult | multu
      | div | divu | add | addu | sub | subu | and | or | xor | nor | slt | sltu =>
    rw [decode_special] <;> simp [encodeWith, encode, Instr.freeBits, decodeSpecial]
  case bltz | bgez | bltzal | bgezal =>
    rw [decode_byT] <;> simp [encodeWith, encode, Instr.freeBits, decodeByT]
  case mfc0 | mfc1 | mfc2 | mfc3 | cfc0 | cfc1 | cfc2 | cfc3 | mtc0 | mtc1 | mtc2 | mtc3 | ctc0 | ctc1 | ctc2 | ctc3 =>
    simp [encodeWith, encode, Instr.freeBits, decode, decodeCop, mfc, cfc, mtc, ctc]
  case bc0f | bc1f | bc2f | bc3f | bc0t | bc1t | bc2t | bc3t =>
    simp [encodeWith, encode, Instr.freeBits, decode, decodeCop, decodeCopBranch, bcf, bct]
  case tlbr | tlbwi | tlbwr | tlbp | rfe =>
    simp [encodeWith, encode, Instr.freeBits, decode, decodeCop, decodeOperation, decodeCop0Operation]
  case cop1 | cop2 | cop3 =>
    simp [encodeWith, encode, Instr.freeBits, decode, decodeCop, decodeOperation]
  -- the rows that `function` alone decides
  all_goals simp [encodeWith, encode, Instr.freeBits, decode]

/-- The renderer of an instruction lists its own operands (R81 to R101). -/
theorem exec_operands (i : Instr) (st : State) :
    ∃ shape r, exec i st = .next (st.drive i.op shape r) ∧ r.operands = i.operands := by
  cases i <;> exact ⟨_, _, rfl, rfl⟩

/-- Settles O55: the classifier reads the instruction back, and its meaning drives its own op and operands. -/
theorem roundTrip : Obligations.RoundTrip := by
  intro junk i
  refine ⟨decode_encodeWith junk i, fun st hw => ?_⟩
  have hd : decode st.nextWord = .row i := hw ▸ decode_encodeWith junk i
  obtain ⟨shape, r, he, ho⟩ := exec_operands i st.sample
  exact ⟨_, (step_of_row hd).trans he, rfl, rfl, ho⟩

/-! ## Encoding undoes decoding: each arm, on the words it recognises -/

theorem encodeWith_decodeSpecial {w : Word} {i : Instr} (hf : function w = 0x00#6) (h : decodeSpecial w = .row i) :
    encodeWith w i = w := by
  unfold decodeSpecial at h
  split at h <;> cases h
  all_goals
    rename_i hs
    apply word_ext <;> simp [encodeWith, encode, Instr.freeBits, hf, hs]

theorem encodeWith_decodeByT {w : Word} {i : Instr} (hf : function w = 0x01#6) (h : decodeByT w = .row i) :
    encodeWith w i = w := by
  unfold decodeByT at h
  split at h <;> cases h
  all_goals
    rename_i ht
    apply word_ext_imm <;> simp [encodeWith, encode, Instr.freeBits, hf, ht]

theorem encodeWith_decodeCop0Operation {w : Word} {i : Instr} (hf : function w = 0x10#6)
    (h : decodeCop0Operation w = .row i) : encodeWith w i = w := by
  unfold decodeCop0Operation at h
  split at h
  · rename_i hc
    split at h <;> cases h
    all_goals
      rename_i hs
      apply word_ext <;> simp [encodeWith, encode, Instr.freeBits, hf, hs, s_eq_cop_opcode, hc]
  · cases h

theorem encodeWith_decodeOperation {w : Word} {i : Instr} {z : BitVec 2} (hf : function w = 0x4#4 ++ z)
    (hb : (cop_opcode w)[4] = true) (h : decodeOperation z w = .row i) : encodeWith w i = w := by
  obtain rfl | rfl | rfl | rfl := coprocessor_cases z
  · exact encodeWith_decodeCop0Operation hf h
  all_goals
    cases h
    apply word_ext_cofun <;> simp [encodeWith, encode, Instr.freeBits, hf, hb]

theorem encodeWith_decodeCopBranch {w : Word} {i : Instr} {z : BitVec 2} (hf : function w = 0x4#4 ++ z)
    (hc : cop_opcode w = 0x08#5) (h : decodeCopBranch z w = .row i) : encodeWith w i = w := by
  unfold decodeCopBranch at h
  split at h <;> cases h
  all_goals
    rename_i ht
    obtain rfl | rfl | rfl | rfl := coprocessor_cases z <;> apply word_ext_imm <;>
      simp [bcf, bct, encodeWith, encode, Instr.freeBits, hf, ht, s_eq_cop_opcode, hc]

theorem encodeWith_decodeCop {w : Word} {i : Instr} {z : BitVec 2} (hf : function w = 0x4#4 ++ z)
    (h : decodeCop z w = .row i) : encodeWith w i = w := by
  unfold decodeCop at h
  split at h
  · rename_i hb
    exact encodeWith_decodeOperation hf hb h
  split at h
  case h_5 hc => exact encodeWith_decodeCopBranch hf hc h
  all_goals cases h
  -- the moves
  all_goals
    rename_i hc
    obtain rfl | rfl | rfl | rfl := coprocessor_cases z <;> apply word_ext <;>
      simp [mfc, cfc, mtc, ctc, encodeWith, encode, Instr.freeBits, hf, s_eq_cop_opcode, hc]

/-- A recognised word is an encoding of its instruction, its own free bits kept (the other direction of R108). -/
theorem encodeWith_decode {w : Word} {i : Instr} (h : decode w = .row i) : encodeWith w i = w := by
  unfold decode at h
  split at h
  case h_1 hf => exact encodeWith_decodeSpecial hf h
  case h_2 hf => exact encodeWith_decodeByT hf h
  case h_3 hf | h_4 hf =>
    cases h
    apply word_ext_jump <;> simp [encodeWith, encode, Instr.freeBits, hf]
  case h_17 hf | h_18 hf | h_19 hf | h_20 hf => exact encodeWith_decodeCop hf h
  all_goals cases h
  -- the rows of format I that `function` alone decides
  all_goals
    rename_i hf
    apply word_ext_imm <;> simp [encodeWith, encode, Instr.freeBits, hf]

end Sys2Proof

namespace Sys2Proof.Laws.RowMatch

/-- The family of Laws/PerInstr.lean, for every instruction. -/
theorem statement (i : Instr) : Statement i := by
  cases i <;>
    simp only [sll, srl, sra, sllv, srlv, srav, jr, jalr, syscall, brk, mfhi, mthi, mflo, mtlo, mult, multu, div, divu,
      add, addu, sub, subu, and, or, xor, nor, slt, sltu, bltz, bgez, bltzal, bgezal, j, jal, beq, bne, blez, bgtz, addi,
      addiu, slti, sltiu, andi, ori, xori, lui, lb, lh, lwl, lw, lbu, lhu, lwr, sb, sh, swl, sw, swr, lwc0, lwc1, lwc2,
      lwc3, swc0, swc1, swc2, swc3, mfc0, mfc1, mfc2, mfc3, cfc0, cfc1, cfc2, cfc3, mtc0, mtc1, mtc2, mtc3, ctc0, ctc1,
      ctc2, ctc3, bc0f, bc1f, bc2f, bc3f, bc0t, bc1t, bc2t, bc3t, tlbr, tlbwi, tlbwr, tlbp, rfe, cop1, cop2, cop3]

end Sys2Proof.Laws.RowMatch

namespace Sys2Proof

open Extract Machine

/-- A recognised word lies in a row of the table: the row of its instruction, whose encodings it is one of. -/
theorem covers_of_decode {w : Word} {i : Instr} (h : decode w = .row i) :
    ∃ r ∈ mipsI, w &&& r.mask = r.matchBits := by
  obtain ⟨r, hr, -, hc⟩ := Laws.RowMatch.statement i w
  rw [encodeWith_decode h, Row.covers, beq_iff_eq] at hc
  exact ⟨r, hr, hc⟩

/-! ## The rows of the table, read by the classifier -/

/-- Bit 25 of the word is bit 4 of `cop_opcode`. -/
theorem cop_opcode_bit4 {w : Word} (h : s w &&& 0x10#5 = 0x10#5) : (cop_opcode w).getLsbD 4 = true := by
  have hb : (s w &&& 0x10#5).getLsbD 4 = true := by rw [h]; rfl
  simpa [s_eq_cop_opcode] using hb

/-- The meaning of `i` is what the row gives for the word: its op and shape, and its renderer on the word's fields. -/
def Row.Means (r : Row) (w : Word) (i : Instr) : Prop :=
  i.op = r.op ∧ ∀ st : State, st.decoded.copz = copz w →
    exec i st = .next (st.drive r.op r.shape (dispatchMux st.regNaming r.fmt r.op.mnemonic w))

/-- The classifier agrees with the row on the word: if the row covers it, the classifier finds what the row gives. -/
def Row.Decodes (r : Row) (w : Word) : Prop :=
  w &&& r.mask = r.matchBits → ∃ i, decode w = .row i ∧ r.Means w i

theorem specialRows_decode (w : Word) : ∀ r ∈ specialRows, r.Decodes w := by
  simp only [specialRows, List.forall_mem_cons, List.not_mem_nil, false_imp_iff, implies_true, and_true]
  and_intros
  all_goals
    intro h
    obtain ⟨hf, hs⟩ := (and_special_iff (by decide)).1 h
    simp only [function_ofNat, subfunction_ofNat, Nat.reducePow, Nat.reduceMod, Nat.reduceDiv] at hf hs
    simp only [decode_special hf, decodeSpecial, hs]
    exact ⟨_, rfl, rfl, fun _ _ => rfl⟩

theorem branchJumpRows_decode (w : Word) : ∀ r ∈ branchJumpRows, r.Decodes w := by
  simp only [branchJumpRows, List.forall_mem_cons, List.not_mem_nil, false_imp_iff, implies_true, and_true]
  and_intros
  iterate 4 -- the branches of `function` = 0x01, by `t`
    · intro h
      obtain ⟨hf, ht⟩ := (and_byT_iff (by decide)).1 h
      simp only [function_ofNat, t_ofNat, Nat.reducePow, Nat.reduceMod, Nat.reduceDiv] at hf ht
      simp only [decode_byT hf, decodeByT, ht]
      exact ⟨_, rfl, rfl, fun _ _ => rfl⟩
  all_goals
    intro h
    have hf := (and_function_iff (by decide)).1 h
    simp only [function_ofNat, Nat.reducePow, Nat.reduceMod, Nat.reduceDiv] at hf
    simp only [decode, hf]
    exact ⟨_, rfl, rfl, fun _ _ => rfl⟩

theorem immediateRows_loadStoreRows_decode (w : Word) : ∀ r ∈ immediateRows ++ loadStoreRows, r.Decodes w := by
  simp only [immediateRows, loadStoreRows, List.cons_append, List.nil_append, List.forall_mem_cons, List.not_mem_nil,
    false_imp_iff, implies_true, and_true]
  and_intros
  all_goals
    intro h
    have hf := (and_function_iff (by decide)).1 h
    simp only [function_ofNat, Nat.reducePow, Nat.reduceMod, Nat.reduceDiv] at hf
    simp only [decode, hf]
    exact ⟨_, rfl, rfl, fun _ hz => by simp only [dispatchMux, ← hz]; rfl⟩

theorem coprocessorRows_decode (w : Word) : ∀ r ∈ coprocessorRows, r.Decodes w := by
  simp only [coprocessorRows, List.forall_mem_cons, List.not_mem_nil, false_imp_iff, implies_true, and_true]
  and_intros
  iterate 16 -- the moves
    · intro h
      obtain ⟨hf, hc⟩ := (and_cop_iff (by decide)).1 h
      simp only [s_eq_cop_opcode, function_ofNat, cop_opcode_ofNat, Nat.reducePow, Nat.reduceMod, Nat.reduceDiv] at hf hc
      simp only [decode, hf, decodeCop, hc]
      exact ⟨_, rfl, rfl, fun _ hz => by simp only [dispatchMux, ← hz]; rfl⟩
  iterate 8 -- the branches
    · intro h
      obtain ⟨hf, hc, ht⟩ := (and_copBranch_iff (by decide)).1 h
      simp only [s_eq_cop_opcode, function_ofNat, cop_opcode_ofNat, t_ofNat, Nat.reducePow, Nat.reduceMod,
        Nat.reduceDiv] at hf hc ht
      simp only [decode, hf, decodeCop, hc, decodeCopBranch, ht]
      exact ⟨_, rfl, rfl, fun _ _ => rfl⟩
  iterate 5 -- the operations of coprocessor 0
    · intro h
      obtain ⟨hf, hc, hs⟩ := (and_cop0_iff (by decide)).1 h
      simp only [s_eq_cop_opcode, function_ofNat, cop_opcode_ofNat, subfunction_ofNat, Nat.reducePow, Nat.reduceMod,
        Nat.reduceDiv] at hf hc hs
      simp only [decode, hf, decodeCop, hc, decodeOperation, decodeCop0Operation, hs]
      exact ⟨_, rfl, rfl, fun _ _ => rfl⟩
  all_goals -- the generic operations
    intro h
    obtain ⟨hf, hb⟩ := (and_operation_iff (by decide)).1 h
    simp only [function_ofNat, s_ofNat, Nat.reducePow, Nat.reduceMod, Nat.reduceDiv] at hf hb
    simp only [decode, hf, decodeCop, cop_opcode_bit4 hb, decodeOperation]
    exact ⟨_, rfl, rfl, fun _ _ => rfl⟩

/-- Every row of the table is read by the classifier. -/
theorem mipsI_decode (w : Word) : ∀ r ∈ mipsI, r.Decodes w := by
  obtain ⟨immediate, loadStore⟩ := List.forall_mem_append.1 (immediateRows_loadStoreRows_decode w)
  simp only [mipsI, List.forall_mem_append]
  exact ⟨⟨⟨⟨specialRows_decode w, branchJumpRows_decode w⟩, immediate⟩, loadStore⟩, coprocessorRows_decode w⟩

end Sys2Proof

namespace Sys2Proof.Machine

/-! ## What a step answers, by the row that covers the next word -/

/-- The meaning runs on the sampled state, whose `copz` is that of the word. -/
theorem exec_sample_of_means {r : Row} {st : State} {i : Instr} (h : r.Means st.nextWord i) :
    exec i st.sample = .next (st.sample.drive r.op r.shape (dispatchMux st.regNaming r.fmt r.op.mnemonic st.nextWord)) :=
  h.2 st.sample (State.sample_decoded_copz st)

/-- A step on a word that a row covers puts out that row. -/
theorem step_of_covers {r : Row} (hr : r ∈ mipsI) {st : State} (hc : st.nextWord &&& r.mask = r.matchBits) :
    step st = .next (st.sample.drive r.op r.shape (dispatchMux st.regNaming r.fmt r.op.mnemonic st.nextWord)) := by
  obtain ⟨i, hd, hm⟩ := mipsI_decode st.nextWord r hr hc
  exact (step_of_row hd).trans (exec_sample_of_means hm)

/-- A step on a word that no row covers gives the unknown outcome. -/
theorem step_of_not_covers {st : State} (hn : ∀ r ∈ mipsI, st.nextWord &&& r.mask ≠ r.matchBits) :
    step st = .next st.sample.driveUnknown := by
  cases hd : decode st.nextWord with
  | row i =>
    obtain ⟨r, hr, hc⟩ := covers_of_decode hd
    exact absurd hc (hn r hr)
  | unknown w => exact step_of_unknown hd

/-- A step puts out the row that covers the next word, or the unknown outcome when none does. -/
theorem step_outcome (st : State) :
    (∃ r ∈ mipsI, st.nextWord &&& r.mask = r.matchBits ∧
      step st = .next (st.sample.drive r.op r.shape (dispatchMux st.regNaming r.fmt r.op.mnemonic st.nextWord))) ∨
    (∀ r ∈ mipsI, st.nextWord &&& r.mask ≠ r.matchBits) ∧ step st = .next st.sample.driveUnknown := by
  by_cases hc : ∃ r ∈ mipsI, st.nextWord &&& r.mask = r.matchBits
  · obtain ⟨r, hr, hc⟩ := hc
    exact .inl ⟨r, hr, hc, step_of_covers hr hc⟩
  · push Not at hc
    exact .inr ⟨hc, step_of_not_covers hc⟩

/-- The same, of a step known to answer `t`. -/
theorem step_row_cases {st t : State} (h : step st = .next t) :
    (∃ r ∈ mipsI, st.nextWord &&& r.mask = r.matchBits ∧
      t = st.sample.drive r.op r.shape (dispatchMux st.regNaming r.fmt r.op.mnemonic st.nextWord)) ∨
    (∀ r ∈ mipsI, st.nextWord &&& r.mask ≠ r.matchBits) ∧ t = st.sample.driveUnknown := by
  obtain ⟨r, hr, hc, hs⟩ | ⟨hn, hs⟩ := step_outcome st
  · exact .inl ⟨r, hr, hc, Host.Outcome.next.inj (h.symm.trans hs)⟩
  · exact .inr ⟨hn, Host.Outcome.next.inj (h.symm.trans hs)⟩

/-- The search of the table finds the row that covers the word, for it is the only one. -/
theorem decodedOf_of_covers {r : Row} (hr : r ∈ mipsI) {w : Word} (hc : w &&& r.mask = r.matchBits) (nm : RegNaming) :
    decodedOf mipsITable nm w =
      ⟨true, r.op, r.shape, (dispatchMux nm r.fmt r.op.mnemonic w).fmt, Extract.copz w, nopFlag w,
        (dispatchMux nm r.fmt r.op.mnemonic w).operands,
        muxText (nopFlag w) (dispatchMux nm r.fmt r.op.mnemonic w).text⟩ :=
  decodedOfRows_of_findRow (mipsITable.findRow_eq hr (beq_iff_eq.2 hc)) nm

/-- The word 0 is recognised, so `nop` is 0 for a word of no row. -/
theorem nopFlag_of_not_covers {w : Word} (hn : ∀ r ∈ mipsI, w &&& r.mask ≠ r.matchBits) : nopFlag w = false := by
  rw [nopFlag_eq_decide, decide_eq_false_iff_not]
  rintro rfl
  exact hn ⟨.sll, 0x00000000#32, 0xFC00003F#32, .R, .F_D_T_SH⟩ (by decide) (by decide)

/-- The search of the table finds no row for a word that none covers. -/
theorem decodedOf_of_not_covers {w : Word} (hn : ∀ r ∈ mipsI, w &&& r.mask ≠ r.matchBits) (nm : RegNaming) :
    decodedOf mipsITable nm w =
      ⟨false, .UNKNOWN, .NONE, .F_UNK, Extract.copz w, nopFlag w, [], "unknown 0x".toList ++ hex8 w⟩ := by
  have hf : findRow mipsITable.rows w = none := findRow_eq_none_iff.2 hn
  simp only [decodedOf, decodedOfRows, hf, renderUnk, nopFlag_of_not_covers hn, muxText_false]

/-- Settles O5: the row that the classifier finds is the row that the search of the table finds. -/
theorem everyStepDecodes : Obligations.EveryStepDecodes := by
  intro st
  obtain ⟨r, hr, hc, hs⟩ | ⟨hn, hs⟩ := step_outcome st
  · rw [hs, decodedOf_of_covers hr hc, State.drive_eq, State.sample_eq]
  · rw [hs, decodedOf_of_not_covers hn, State.driveUnknown_eq, State.sample_eq]

end Sys2Proof.Machine


/-! PROOFS. The numerals of 41_dispatch_render.md R75 to R77: a numeral of `numeral` or `hexDigits` reads back, through
`readNumeral`, as the number it was made of, and has no leading zero. -/

namespace Sys2Proof

open Machine

/-! ## Reading a numeral digit by digit -/

@[simp] theorem readNumeral_nil (base : Nat) : readNumeral base [] = some 0 := rfl

/-- One more digit at the end: the value so far is multiplied by the base. -/
theorem readNumeral_append_digit {base n m : Nat} {text : Text} (hb : base ≤ 16) (hm : m < base)
    (h : readNumeral base text = some n) : readNumeral base (text ++ [digit m]) = some (n * base + m) := by
  unfold readNumeral at h ⊢
  rw [List.foldl_append, h]
  simp [digitValue_digit m (by omega), hm]

/-- With enough fuel the numeral of `n` reads back as `n`. -/
theorem readNumeral_numeral {base fuel n : Nat} (h2 : 2 ≤ base) (hb : base ≤ 16) (hf : n < fuel) :
    readNumeral base (numeral base fuel n []) = some n := by
  induction fuel generalizing n with
  | zero => omega
  | succ k ih =>
    unfold numeral
    split
    · rename_i hn
      simpa using readNumeral_append_digit hb hn (readNumeral_nil base)
    · have hq : n / base < k := by
        have := Nat.div_lt_self (show 0 < n by omega) h2
        omega
      rw [numeral_append, readNumeral_append_digit hb (Nat.mod_lt n (by omega)) (ih hq), Nat.div_add_mod']

/-- The digits are put in front of what is already there. -/
theorem hexDigits_append (k v : Nat) (acc : Text) : hexDigits k v acc = hexDigits k v [] ++ acc := by
  induction k generalizing v acc with
  | zero => rfl
  | succ k ih =>
    rw [hexDigits, hexDigits, ih (v / 16) (digit (v % 16) :: acc), ih (v / 16) [digit (v % 16)]]
    simp

/-- The lowest `k` hexadecimal digits of `v` spell the remainder of `v`. -/
theorem readNumeral_hexDigits (k v : Nat) : readNumeral 16 (hexDigits k v []) = some (v % 16 ^ k) := by
  induction k generalizing v with
  | zero => simp [hexDigits, Nat.mod_one]
  | succ k ih =>
    rw [hexDigits, hexDigits_append, readNumeral_append_digit le_rfl (Nat.mod_lt v (by decide)) (ih (v / 16)),
      Nat.pow_succ', Nat.mod_mul]
    congr 1
    ring

/-! ## The leading digit -/

/-- The numeral begins with a digit, which is 0 for the number 0 alone. -/
theorem numeral_eq_cons {base fuel n : Nat} (h2 : 2 ≤ base) (hb : base ≤ 16) (hf : n < fuel) :
    ∃ m ds, numeral base fuel n [] = digit m :: ds ∧ m < 16 ∧ (m = 0 → n = 0) := by
  induction fuel generalizing n with
  | zero => omega
  | succ k ih =>
    unfold numeral
    split
    · exact ⟨n, [], rfl, by omega, id⟩
    · rename_i hn
      have hq : n / base < k := by
        have := Nat.div_lt_self (show 0 < n by omega) h2
        omega
      obtain ⟨m, ds, he, hm, hz⟩ := ih hq
      have pos : n / base ≠ 0 := (Nat.div_pos (by omega) (by omega)).ne'
      rw [numeral_append, he]
      exact ⟨m, _, rfl, hm, fun h => absurd (hz h) pos⟩

theorem noLeadingZero_numeral {base : Nat} (h2 : 2 ≤ base) (hb : base ≤ 16) (n : Nat) :
    noLeadingZero (numeral base (n + 1) n []) := by
  obtain ⟨m, ds, he, hm, hz⟩ := numeral_eq_cons h2 hb (Nat.lt_succ_self n)
  refine ⟨by simp [he], fun h => ?_⟩
  rw [he, List.head?_cons, Option.some_inj, digit_eq_zero_iff m hm] at h
  rw [hz h, numeral, if_pos (by omega)]
  rfl

/-- Settles O24: `dec` is the numeral of base 10, and the magnitude `sdec` shows is the number or its negation. -/
theorem decimalNumerals : Obligations.DecimalNumerals := by
  have signed (v : Int) : sdecInt v = if v < 0 then '-' :: dec (-v).toNat else dec v.toNat := by
    unfold sdecInt
    split
    · rw [show v.natAbs = (-v).toNat by omega]
    · rw [show v.natAbs = v.toNat by omega]
  exact ⟨fun v => ⟨readNumeral_numeral (by decide) (by decide) (Nat.lt_succ_self v),
    noLeadingZero_numeral (by decide) (by decide) v⟩, fun p => signed p.toInt, signed⟩

/-- Settles O25: `hex` is `0x` and the numeral of base 16, `hex8` the eight lowest hexadecimal digits, which are all. -/
theorem hexNumerals : Obligations.HexNumerals := by
  refine ⟨fun v => ⟨numeral 16 (v + 1) v [], rfl, readNumeral_numeral (by decide) (by decide) (Nat.lt_succ_self v),
    noLeadingZero_numeral (by decide) (by decide) v⟩, fun w => ⟨hex8_length w, ?_⟩⟩
  rw [hex8, readNumeral_hexDigits, Nat.mod_eq_of_lt (show w.toNat < 16 ^ 8 from w.isLt)]

end Sys2Proof


/-! PROOFS. The texts of 41_dispatch_render.md R73 to R101 are printable (R104): the digits, the numerals, the names of the
registers, and the lines of the renderers. -/

namespace Sys2Proof.Machine

/-! ## Printable texts -/

/-- R104: every character of the text is in 0x20 to 0x7E. -/
def Printable (text : Text) : Prop := ∀ c ∈ text, 0x20 ≤ c.toNat ∧ c.toNat ≤ 0x7E

@[simp] theorem printable_append (a b : Text) : Printable (a ++ b) ↔ Printable a ∧ Printable b :=
  List.forall_mem_append

@[simp] theorem printable_cons (c : Char) (a : Text) :
    Printable (c :: a) ↔ (0x20 ≤ c.toNat ∧ c.toNat ≤ 0x7E) ∧ Printable a :=
  List.forall_mem_cons

@[simp] theorem printable_nil : Printable [] := List.forall_mem_nil _

/-- The same, as a check that evaluates. -/
theorem printable_iff_all (text : Text) :
    Printable text ↔ text.all (fun c => (0x20).ble c.toNat && c.toNat.ble 0x7E) = true := by
  simp [Printable]

theorem printable_numeral {base : Nat} (h1 : 1 ≤ base) (hb : base ≤ 16) (fuel n : Nat) :
    Printable (numeral base fuel n []) := by
  induction fuel generalizing n with
  | zero => exact printable_nil
  | succ k ih =>
    unfold numeral
    split
    · simp [digit_printable n (by omega)]
    · have hm : n % base < 16 := (Nat.mod_lt n h1).trans_le hb
      rw [numeral_append]
      simp [ih, digit_printable _ hm]

@[simp] theorem printable_dec (v : Nat) : Printable (dec v) := printable_numeral (by decide) (by decide) _ _

@[simp] theorem printable_hex (v : Nat) : Printable (hex v) := by
  simp [hex, printable_numeral]

@[simp] theorem printable_sdecInt (v : Int) : Printable (sdecInt v) := by
  unfold sdecInt
  split <;> simp

@[simp] theorem printable_sdec (p : BitVec 32) : Printable (sdec p) := printable_sdecInt _

theorem printable_hexDigits (k v : Nat) : Printable (hexDigits k v []) := by
  induction k generalizing v with
  | zero => exact printable_nil
  | succ k ih =>
    rw [hexDigits, hexDigits_append]
    simp [ih, digit_printable _ (Nat.mod_lt v (by decide))]

@[simp] theorem printable_hex8 (w : Word) : Printable (hex8 w) := printable_hexDigits 8 _

@[simp] theorem printable_gpr (nm : RegNaming) (n : RegIdx) : Printable (gpr nm n) := by
  cases nm with
  | NUMERIC => simp [gpr]
  | ABI =>
    rw [printable_iff_all]
    revert n
    decide

@[simp] theorem printable_cprd (z : BitVec 2) (n : RegIdx) : Printable (cprd z n) := by
  simp [cprd]

@[simp] theorem printable_cprc (z : BitVec 2) (n : RegIdx) : Printable (cprc z n) := by
  simp [cprc]

@[simp] theorem printable_mnemonic (op : Op) : Printable op.mnemonic := by
  rw [printable_iff_all]
  cases op <;> rfl

@[simp] theorem printable_memOperand (disp base : Text) :
    Printable (memOperand disp base) ↔ Printable disp ∧ Printable base := by
  simp [memOperand]

theorem printable_joinOperands {ops : List Text} (h : ∀ a ∈ ops, Printable a) : Printable (joinOperands ops) := by
  induction ops with
  | nil => exact printable_nil
  | cons a rest ih =>
    obtain ⟨ha, hrest⟩ := List.forall_mem_cons.1 h
    cases rest with
    | nil => exact ha
    | cons b rest => simp [joinOperands, ha, ih hrest]

theorem printable_line {mn : Text} {ops : List Text} (hm : Printable mn) (h : ∀ a ∈ ops, Printable a) :
    Printable (line mn ops) := by
  cases ops with
  | nil => exact hm
  | cons a rest => simp [line, hm, printable_joinOperands h]

/-- A renderer other than that of the unknown outcome writes a line of the common grammar (R80), with printable
operands. -/
theorem dispatchMux_eq_line (nm : RegNaming) {fmt : Fmt} (hf : fmt ≠ .F_UNK) (mn : Text) (w : Word) :
    ∃ operands ops, dispatchMux nm fmt mn w = ⟨fmt, operands, line mn ops⟩ ∧ ∀ a ∈ ops, Printable a := by
  cases fmt
  case F_UNK => exact absurd rfl hf
  all_goals
    refine ⟨_, _, rfl, ?_⟩
    simp

/-- A row's renderer puts out a printable text. -/
theorem printable_dispatchMux (nm : RegNaming) {fmt : Fmt} (hf : fmt ≠ .F_UNK) {mn : Text} (hm : Printable mn)
    (w : Word) : Printable (dispatchMux nm fmt mn w).text := by
  obtain ⟨_, ops, h, hops⟩ := dispatchMux_eq_line nm hf mn w
  rw [h]
  exact printable_line hm hops

end Sys2Proof.Machine


/-! PROOFS. The outputs that name the row: the codes of `op_o` (41_dispatch_render.md R67), the shape (R68), the
coprocessor number (R69), the word rendered `nop` (R102), and the text as a function of the value (R103). -/

namespace Sys2Proof

open Extract Machine

/-! ## The codes of the rows -/

/-- The identifiers are coded in the order they are listed in. -/
theorem Op.code_toNat (op : Op) : op.code.toNat = op.ctorIdx := by
  cases op <;> rfl

theorem Op.code_injective : Function.Injective Op.code := fun a b h => by
  rw [← Op.ofNat_ctorIdx a, ← Op.ofNat_ctorIdx b, ← code_toNat, ← code_toNat, h]

theorem Op.code_le (op : Op) : op.code.toNat ≤ 98 := by
  cases op <;> decide

/-- Settles O13: the listing order of the identifiers is the file order of the rows. -/
theorem opCodes : Obligations.OpCodes :=
  ⟨rfl, by decide, fun _ _ h => Op.code_injective h, Op.code_le⟩

/-! ## Facts of each of the 98 rows -/

/-- A row of the table examines `function`, so the words it covers have its own. -/
theorem function_of_covers {r : Row} (hr : r ∈ mipsI) {w : Word} (hc : w &&& r.mask = r.matchBits) :
    function w = function r.matchBits :=
  Row.wellFormed_function (mipsITable.conditions.1 r hr) (beq_iff_eq.2 hc)

/-- R69: a row of the coprocessor `z` has `z` in the two low bits of its `function`. -/
theorem copz_of_coprocessorOps :
    ∀ r ∈ mipsI, ∀ z, r.op ∈ coprocessorOps z → (function r.matchBits).extractLsb' 0 2 = z := by
  decide

/-- R69: no coprocessor has `UNKNOWN` among its rows. -/
theorem unknown_not_coprocessorOps : ∀ z, Op.UNKNOWN ∉ coprocessorOps z := by
  decide

/-- Every identifier but `UNKNOWN` is that of one row only. -/
theorem eq_of_op_eq : ∀ r ∈ mipsI, ∀ q ∈ mipsI, r.op = q.op → r = q :=
  fun r hr q hq h => List.inj_on_of_nodup_map (f := Row.op) (by decide) hr hq h

/-- R68: the shapes of the rows, by their `function`. -/
theorem shape_code_of_row : ∀ r ∈ mipsI,
    r.shape.code ≠ 0#3 ∧ (r.shape.code = 1#3 ↔ function r.matchBits = 0x00#6) ∧
      (r.shape.code = 2#3 ↔ (function r.matchBits).toNat ∈
        [0x01, 0x04, 0x05, 0x06, 0x07, 0x08, 0x09, 0x0A, 0x0B, 0x0C, 0x0D, 0x0E, 0x0F, 0x20, 0x21, 0x22, 0x23, 0x24,
         0x25, 0x26, 0x28, 0x29, 0x2A, 0x2B, 0x2E, 0x30, 0x31, 0x32, 0x33, 0x38, 0x39, 0x3A, 0x3B]) ∧
      (r.shape.code = 3#3 ↔ (function r.matchBits).toNat ∈ [0x02, 0x03]) ∧
      (r.shape.code = 4#3 ↔ (function r.matchBits).toNat ∈ [0x10, 0x11, 0x12, 0x13]) := by
  decide

/-- No mnemonic of a row is a beginning of `nop`. -/
theorem mnemonic_not_begins_nop : ∀ r ∈ mipsI, ¬ r.op.mnemonic <+: "nop".toList := by
  decide

/-- A row of the table has a renderer of its own. -/
theorem fmt_ne_unk {r : Row} (hr : r ∈ mipsI) : r.fmt ≠ .F_UNK := by
  revert r
  decide

end Sys2Proof

namespace Sys2Proof.Machine

/-! ## Shape and coprocessor number -/

/-- Settles O16: the row that covers the word has its `function`, which gives its shape. -/
theorem shapeByFunction : Obligations.ShapeByFunction := by
  intro st
  obtain ⟨r, hr, hc, hs⟩ | ⟨-, hs⟩ := step_outcome st
  · refine ⟨_, hs, ?_⟩
    simpa [State.ports, fieldsOf, function_of_covers hr hc] using shape_code_of_row r hr
  · refine ⟨_, hs, ?_⟩
    simp [State.ports, Shape.code]

/-- Settles O17: `copz` is wired to the word, and a coprocessor row has its number in the `function` it examines. -/
theorem coprocessorNumber : Obligations.CoprocessorNumber := by
  intro st
  obtain ⟨t, hs⟩ := step_answers st
  obtain ⟨-, -, -, hf, hz, -⟩ := step_frame hs
  refine ⟨t, hs, hz, ?_, fun z ho => ?_⟩
  · simp only [State.ports, hf, hz, fieldsOf, Extract.copz, slice_toNat, function_toNat]
    rfl
  change t.decoded.copz = z
  obtain ⟨r, hr, hc, rfl⟩ | ⟨-, rfl⟩ := step_row_cases hs
  · rw [hz, copz_of_function, function_of_covers hr hc]
    exact copz_of_coprocessorOps r hr z ho
  · exact absurd ho (unknown_not_coprocessorOps z)

/-! ## The text of a renderer -/

/-- A line begins with its mnemonic. -/
theorem mnemonic_begins_line (mn : Text) (ops : List Text) : mn <+: line mn ops := by
  cases ops with
  | nil => simp [line]
  | cons a rest => simp [line]

/-- No row renders a word as `nop`. -/
theorem row_text_ne_nop {r : Row} (hr : r ∈ mipsI) (nm : RegNaming) (w : Word) :
    (dispatchMux nm r.fmt r.op.mnemonic w).text ≠ "nop".toList := by
  obtain ⟨_, ops, h, -⟩ := dispatchMux_eq_line nm (fmt_ne_unk hr) r.op.mnemonic w
  rw [h]
  exact fun hn => mnemonic_not_begins_nop r hr (hn ▸ mnemonic_begins_line r.op.mnemonic ops)

/-- Widening a field to the 32 bits of an operand value loses nothing (R72). -/
theorem setWidth_32_inj {n : Nat} (h : n ≤ 32) {x y : BitVec n} : x.setWidth 32 = y.setWidth 32 ↔ x = y := by
  refine ⟨fun e => ?_, congrArg _⟩
  have narrowed := congrArg (BitVec.setWidth n) e
  rwa [BitVec.setWidth_setWidth_of_le _ h, BitVec.setWidth_setWidth_of_le _ h, BitVec.setWidth_eq,
    BitVec.setWidth_eq] at narrowed

/-- R103: under one renderer, equal operands and equal `copz` give equal texts, whatever the words. -/
theorem text_eq_of_operands_eq (nm : RegNaming) {fmt : Fmt} (hf : fmt ≠ .F_UNK) (mn : Text) {v w : Word}
    (hz : Extract.copz v = Extract.copz w)
    (ho : (dispatchMux nm fmt mn v).operands = (dispatchMux nm fmt mn w).operands) :
    (dispatchMux nm fmt mn v).text = (dispatchMux nm fmt mn w).text := by
  cases fmt
  case F_UNK => exact absurd rfl hf
  case F_NONE => rfl
  all_goals
    simp only [dispatchMux, renderDST, renderDTSh, renderDTS, renderS, renderDS, renderD, renderST, renderTSIs,
      renderTSIu, renderTIu, renderSTBr, renderSBr, renderBr, renderJt, renderTMem, renderCtMem, renderTCd, renderTCc,
      renderCofun, opGpr, opCprD, opCprC, opShamt, opImmS, opImmU, opBroff, opJtarget, opCofun, List.cons.injEq,
      Operand.mk.injEq, setWidth_32_inj, Nat.reduceLeDiff, true_and, and_true] at ho ⊢
    simp only [ho, hz]

/-! ## The word rendered `nop` -/

/-- The word 0 lies in the row of `sll`, whose renderer shows three zero fields. -/
theorem step_zero {st : State} (hw : st.nextWord = 0#32) :
    step st = .next (st.sample.drive .sll .R (dispatchMux st.regNaming .F_D_T_SH (Op.mnemonic .sll) 0#32)) := by
  have hr : ⟨.sll, 0x00000000#32, 0xFC00003F#32, .R, .F_D_T_SH⟩ ∈ mipsI := by decide
  rw [step_of_covers hr (by rw [hw]; rfl), hw]

/-- Settles O27: the text of the word 0 is muxed to `nop`; any other text begins with a mnemonic or is `unknown`. -/
theorem nopAlias : Obligations.NopAlias := by
  intro st
  obtain ⟨t, hs⟩ := step_answers st
  obtain ⟨-, -, -, -, -, hn⟩ := step_frame hs
  refine ⟨t, hs, ?_, ⟨fun h => ?_, fun hw => ?_⟩, fun hw => ?_⟩
  · rw [← nopFlag_eq_true, ← hn]
    change BitVec.ofBool t.decoded.nop = 1#1 ↔ _
    cases t.decoded.nop <;> decide
  · by_contra hw
    have hn' : nopFlag st.nextWord = false := by rw [nopFlag_eq_decide, decide_eq_false hw]
    obtain ⟨r, hr, -, rfl⟩ | ⟨-, rfl⟩ := step_row_cases hs
    · simp only [State.drive_decoded_text, State.sample_decoded_nop, hn', muxText_false] at h
      exact row_text_ne_nop hr st.regNaming st.nextWord h
    · simp at h
  · cases hs.symm.trans (step_zero hw)
    simp [hw, nopFlag]
  · cases hs.symm.trans (step_zero hw)
    exact ⟨rfl, rfl, rfl, rfl, rfl⟩

/-! ## The text is a function of the value -/

/-- Settles O28: the op gives the row, the row and the operands give the text. -/
theorem textDetermined : Obligations.TextDetermined := by
  refine ⟨fun a b t u hnm ha hb kt ku hop hopnds hz hnop => ?_, fun a t ha kt => ?_, fun a t ha hn => ?_,
    fun a t ha => ?_⟩
  · obtain ⟨r, hr, -, rfl⟩ | ⟨-, rfl⟩ := step_row_cases ha
    case inr => cases kt
    obtain ⟨q, hq, -, rfl⟩ | ⟨-, rfl⟩ := step_row_cases hb
    case inr => cases ku
    simp only [State.drive_decoded_op, State.drive_decoded_operands, State.drive_decoded_copz, State.drive_decoded_nop,
      State.drive_decoded_text, State.sample_decoded_copz] at hop hopnds hz hnop ⊢
    cases eq_of_op_eq r hr q hq hop
    rw [← hnm] at hopnds ⊢
    rw [hnop, text_eq_of_operands_eq a.regNaming (fmt_ne_unk hr) r.op.mnemonic hz hopnds]
  · obtain ⟨r, -, -, rfl⟩ | ⟨-, rfl⟩ := step_row_cases ha
    · cases kt
    · simp
  · obtain ⟨r, -, -, rfl⟩ | ⟨hnc, rfl⟩ := step_row_cases ha
    · rw [State.drive_decoded_nop] at hn
      rw [State.drive_decoded_text, hn, muxText_true]
    · simp [nopFlag_of_not_covers hnc] at hn
  · obtain ⟨r, -, -, rfl⟩ | ⟨-, rfl⟩ := step_row_cases ha
    · refine ⟨fun hn => ?_, by simp⟩
      rw [State.drive_decoded_nop] at hn
      rw [State.drive_decoded_text, hn, muxText_false, State.drive_decoded_fmt, dispatchMux_fmt, State.drive_decoded_op]
    · simp [dispatchMux, renderUnk]

end Sys2Proof.Machine


/-! PROOFS. Every instruction completes with the output its rule writes out (41_dispatch_render.md R82 to R101): each
renderer against the operands and the text of its rule, then each meaning. -/

namespace Sys2Proof.Machine

/-! ## The renderers, in the words of their rules -/

/-- What a rule shows, put out under the code of a renderer. -/
def Shown.rendering (fmt : Fmt) (x : Shown) : Rendering := ⟨fmt, x.operands, x.text⟩

/-- Driving what a rule shows gives the state of the rule. -/
theorem State.drive_rendering (st : State) (op : Op) (shape : Shape) (fmt : Fmt) (x : Shown) :
    st.drive op shape (x.rendering fmt) = st.showing op shape fmt x := rfl

theorem line_one (mn a : Text) : line mn [a] = mn ++ " ".toList ++ a := rfl

theorem line_two (mn a b : Text) : line mn [a, b] = mn ++ " ".toList ++ a ++ ", ".toList ++ b := by
  simp [line, joinOperands]

theorem line_three (mn a b c : Text) :
    line mn [a, b, c] = mn ++ " ".toList ++ a ++ ", ".toList ++ b ++ ", ".toList ++ c := by
  simp [line, joinOperands]

theorem line_memOperand (mn a disp base : Text) :
    line mn [a, memOperand disp base] =
      mn ++ " ".toList ++ a ++ ", ".toList ++ disp ++ "(".toList ++ base ++ ")".toList := by
  simp [line, joinOperands, memOperand]

section

variable (nm : RegNaming) (mn : String) (d s t : RegIdx) (z : BitVec 2) (imm : BitVec 16) (imm_se : BitVec 32)

theorem renderNone_eq : renderNone mn.toList = (shownNone mn).rendering .F_NONE := rfl

theorem renderDST_eq : renderDST nm mn.toList d s t = (shownDST nm mn d s t).rendering .F_D_S_T :=
  congrArg (Rendering.mk _ _) (line_three _ _ _ _)

theorem renderDTSh_eq (shift : BitVec 5) :
    renderDTSh nm mn.toList d t shift = (shownDTSh nm mn d t shift).rendering .F_D_T_SH :=
  congrArg (Rendering.mk _ _) (line_three _ _ _ _)

theorem renderDTS_eq : renderDTS nm mn.toList d t s = (shownDTS nm mn d t s).rendering .F_D_T_S :=
  congrArg (Rendering.mk _ _) (line_three _ _ _ _)

theorem renderS_eq : renderS nm mn.toList s = (shownOne nm mn s).rendering .F_S := rfl

theorem renderD_eq : renderD nm mn.toList d = (shownOne nm mn d).rendering .F_D := rfl

theorem renderDS_eq : renderDS nm mn.toList d s = (shownTwo nm mn d s).rendering .F_D_S :=
  congrArg (Rendering.mk _ _) (line_two _ _ _)

theorem renderST_eq : renderST nm mn.toList s t = (shownTwo nm mn s t).rendering .F_S_T :=
  congrArg (Rendering.mk _ _) (line_two _ _ _)

theorem renderTSIs_eq : renderTSIs nm mn.toList t s imm_se = (shownTSIs nm mn t s imm_se).rendering .F_T_S_IS :=
  congrArg (Rendering.mk _ _) (line_three _ _ _ _)

theorem renderTSIu_eq : renderTSIu nm mn.toList t s imm = (shownTSIu nm mn t s imm).rendering .F_T_S_IU :=
  congrArg (Rendering.mk _ _) (line_three _ _ _ _)

theorem renderTIu_eq : renderTIu nm mn.toList t imm = (shownTIu nm mn t imm).rendering .F_T_IU :=
  congrArg (Rendering.mk _ _) (line_two _ _ _)

theorem renderSTBr_eq : renderSTBr nm mn.toList s t imm_se = (shownSTBr nm mn s t imm_se).rendering .F_S_T_BR :=
  congrArg (Rendering.mk _ _) (line_three _ _ _ _)

theorem renderSBr_eq : renderSBr nm mn.toList s imm_se = (shownSBr nm mn s imm_se).rendering .F_S_BR :=
  congrArg (Rendering.mk _ _) (line_two _ _ _)

theorem renderBr_eq : renderBr mn.toList imm_se = (shownBr mn imm_se).rendering .F_BR := rfl

theorem renderJt_eq (imm_jump : BitVec 26) : renderJt mn.toList imm_jump = (shownJt mn imm_jump).rendering .F_JT := rfl

theorem renderTMem_eq : renderTMem nm mn.toList t imm_se s = (shownTMem nm mn t imm_se s).rendering .F_T_MEM :=
  congrArg (Rendering.mk _ _) (line_memOperand _ _ _ _)

theorem renderCtMem_eq :
    renderCtMem nm mn.toList z t imm_se s = (shownCtMem nm mn z t imm_se s).rendering .F_CT_MEM :=
  congrArg (Rendering.mk _ _) (line_memOperand _ _ _ _)

theorem renderTCd_eq : renderTCd nm mn.toList z t d = (shownTCd nm mn z t d).rendering .F_T_CD :=
  congrArg (Rendering.mk _ _) (line_two _ _ _)

theorem renderTCc_eq : renderTCc nm mn.toList z t d = (shownTCc nm mn z t d).rendering .F_T_CC :=
  congrArg (Rendering.mk _ _) (line_two _ _ _)

theorem renderCofun_eq (cofun : BitVec 25) :
    renderCofun mn.toList cofun = (shownCofun mn cofun).rendering .F_COFUN := rfl

end

/-! ## The meanings -/

/-- A meaning that drives one renderer's output answers the state of its rule, when the renderer puts out what the rule
shows. -/
theorem exec_eq_showing {i : Instr} {st : State} {op : Op} {shape : Shape} {fmt : Fmt} {r : Rendering} {x : Shown}
    (he : exec i st = .next (st.drive op shape r)) (hr : r = x.rendering fmt) :
    exec i st = .next (st.showing op shape fmt x) := by
  rw [he, hr, State.drive_rendering]

/-- Settles O31: the meanings of R83, R84 and R85. -/
theorem execArithmetic : Obligations.ExecArithmetic := by
  refine ⟨fun d s t st => ?_, fun d t shift st => ?_, fun d t s st => ?_⟩ <;> and_intros
  iterate 10 exact exec_eq_showing rfl (renderDST_eq _ _ _ _ _)
  iterate 3 exact exec_eq_showing rfl (renderDTSh_eq _ _ _ _ _)
  iterate 3 exact exec_eq_showing rfl (renderDTS_eq _ _ _ _ _)

/-- Settles O32: the meanings of R86, R87, R88 and R89. -/
theorem execOneTwoRegister : Obligations.ExecOneTwoRegister := by
  refine ⟨fun s st => ?_, fun d s st => ?_, fun d st => ?_, fun s t st => ?_⟩ <;> and_intros
  iterate 3 exact exec_eq_showing rfl (renderS_eq _ _ _)
  exact exec_eq_showing rfl (renderDS_eq _ _ _ _)
  iterate 2 exact exec_eq_showing rfl (renderD_eq _ _ _)
  iterate 4 exact exec_eq_showing rfl (renderST_eq _ _ _ _)

/-- Settles O33: the meanings of R82. -/
theorem execNoOperand : Obligations.ExecNoOperand := by
  intro st
  and_intros
  all_goals exact exec_eq_showing rfl (renderNone_eq _)

/-- Settles O34: the meanings of R90, R91 and R92. -/
theorem execImmediate : Obligations.ExecImmediate := by
  refine ⟨fun t s imm st => ?_, fun t s imm st => ?_, fun t imm st => ?_⟩ <;> and_intros
  iterate 4 exact exec_eq_showing rfl (renderTSIs_eq _ _ _ _ _)
  iterate 3 exact exec_eq_showing rfl (renderTSIu_eq _ _ _ _ _)
  exact exec_eq_showing rfl (renderTIu_eq _ _ _ _)

/-- Settles O35: the meanings of R93, R94 and R95. -/
theorem execBranch : Obligations.ExecBranch := by
  refine ⟨fun s t imm st => ?_, fun s imm st => ?_, fun imm st => ?_⟩ <;> and_intros
  iterate 2 exact exec_eq_showing rfl (renderSTBr_eq _ _ _ _ _)
  iterate 6 exact exec_eq_showing rfl (renderSBr_eq _ _ _ _)
  iterate 8 exact exec_eq_showing rfl (renderBr_eq _ _)

/-- Settles O36: the meanings of R96 and R101. -/
theorem execJumpCofun : Obligations.ExecJumpCofun := by
  refine ⟨fun target st => ?_, fun cofun st => ?_⟩ <;> and_intros
  iterate 2 exact exec_eq_showing rfl (renderJt_eq _ _)
  iterate 3 exact exec_eq_showing rfl (renderCofun_eq _ _)

/-- Settles O37: the meanings of R97. -/
theorem execLoadStore : Obligations.ExecLoadStore := by
  intro t imm s st
  and_intros
  all_goals exact exec_eq_showing rfl (renderTMem_eq _ _ _ _ _)

/-- Settles O38: the meanings of R98. -/
theorem execCoprocessorLoadStore : Obligations.ExecCoprocessorLoadStore := by
  intro t imm s st
  and_intros
  all_goals exact exec_eq_showing rfl (renderCtMem_eq _ _ _ _ _ _)

/-- Settles O39: the meanings of R99 and R100. -/
theorem execCoprocessorMove : Obligations.ExecCoprocessorMove := by
  refine ⟨fun t d st => ?_, fun t d st => ?_⟩ <;> and_intros
  iterate 8 exact exec_eq_showing rfl (renderTCd_eq _ _ _ _ _)
  iterate 8 exact exec_eq_showing rfl (renderTCc_eq _ _ _ _ _)

end Sys2Proof.Machine


/-! PROOFS. The text port of 41_dispatch_render.md R104: every text fits the port. -/

namespace Sys2Proof.Machine

/-! ## The lengths of the texts -/

/-- R73: the greatest length of a general-register name. -/
def registerWidth (nm : RegNaming) : Nat :=
  match nm with
  | .NUMERIC => 3
  | .ABI => 5

/-- R105: the greatest length of what a renderer writes after the mnemonic, for register names of length at most `g`. -/
def operandsWidth (g : Nat) (fmt : Fmt) : Nat :=
  match fmt with
  | .F_UNK => 18
  | .F_NONE => 0
  | .F_D_S_T | .F_D_T_S => 3 * g + 5
  | .F_D_T_SH => 2 * g + 7
  | .F_S | .F_D => g + 1
  | .F_D_S | .F_S_T => 2 * g + 3
  | .F_T_S_IS | .F_T_S_IU | .F_T_MEM => 2 * g + 11
  | .F_T_IU => g + 9
  | .F_S_T_BR => 2 * g + 12
  | .F_S_BR | .F_T_CD | .F_T_CC => g + 10
  | .F_BR => 8
  | .F_JT | .F_COFUN => 10
  | .F_CT_MEM => g + 18

theorem gpr_length_le_registerWidth (nm : RegNaming) (n : RegIdx) : (gpr nm n).length ≤ registerWidth nm := by
  obtain ⟨-, numeric, -, abi⟩ := gpr_length_le n
  cases nm
  · exact numeric
  · exact abi

theorem sdecInt_length_le (k : Nat) (v : Int) (hk : 1 ≤ k) (h : v.natAbs < 10 ^ k) : (sdecInt v).length ≤ k + 1 := by
  have := dec_length_le k v.natAbs hk h
  unfold sdecInt
  split
  · exact Nat.succ_le_succ this
  · omega

theorem dec_copz_length_le (z : BitVec 2) : (dec z.toNat).length ≤ 1 :=
  dec_length_le 1 _ (by decide) (by omega)

theorem dec_index_length_le (n : BitVec 5) : (dec n.toNat).length ≤ 2 :=
  dec_length_le 2 _ (by decide) (by omega)

theorem cprd_length_le (z : BitVec 2) (n : RegIdx) : (cprd z n).length ≤ 7 := by
  have hz := dec_copz_length_le z
  have hn := dec_index_length_le n
  simp [cprd]
  omega

theorem cprc_length_le (z : BitVec 2) (n : RegIdx) : (cprc z n).length ≤ 7 := by
  have hz := dec_copz_length_le z
  have hn := dec_index_length_le n
  simp [cprc]
  omega

theorem sdec_imm_se_length_le (w : Word) : (sdec (Extract.imm_se w)).length ≤ 6 := by
  have h := imm_se_toInt_bounds w
  exact sdecInt_length_le 5 _ (by decide) (by omega)

theorem sdecInt_broff_length_le (w : Word) : (sdecInt (broff (Extract.imm_se w))).length ≤ 7 := by
  have h := imm_se_toInt_bounds w
  exact sdecInt_length_le 6 _ (by decide) (by unfold broff; omega)

theorem hex_imm_length_le (i : BitVec 16) : (hex i.toNat).length ≤ 6 :=
  hex_length_le 4 _ (by decide) i.isLt

theorem hex_jtarget_length_le (j : BitVec 26) : (hex (jtarget j)).length ≤ 9 :=
  hex_length_le 7 _ (by decide) (by unfold jtarget; omega)

theorem hex_cofun_length_le (c : BitVec 25) : (hex c.toNat).length ≤ 9 :=
  hex_length_le 7 _ (by decide) (by omega)

/-- The length of a text, but for its mnemonic, is bounded by its renderer (R105). -/
theorem text_length_le (nm : RegNaming) (fmt : Fmt) (mn : Text) (w : Word) :
    (dispatchMux nm fmt mn w).text.length ≤ mn.length + operandsWidth (registerWidth nm) fmt := by
  have hs := gpr_length_le_registerWidth nm (Extract.s w)
  have ht := gpr_length_le_registerWidth nm (Extract.t w)
  have hd := gpr_length_le_registerWidth nm (Extract.d w)
  have hsh := dec_index_length_le (Extract.shift w)
  have hi := sdec_imm_se_length_le w
  have hb := sdecInt_broff_length_le w
  have hu := hex_imm_length_le (Extract.imm w)
  have hj := hex_jtarget_length_le (Extract.imm_jump w)
  have hct := cprd_length_le (Extract.copz w) (Extract.t w)
  have hcd := cprd_length_le (Extract.copz w) (Extract.d w)
  have hcc := cprc_length_le (Extract.copz w) (Extract.d w)
  have hc := hex_cofun_length_le (Extract.cofun w)
  cases fmt <;>
    simp [dispatchMux, renderUnk, renderNone, renderDST, renderDTSh, renderDTS, renderS, renderDS, renderD, renderST,
      renderTSIs, renderTSIu, renderTIu, renderSTBr, renderSBr, renderBr, renderJt, renderTMem, renderCtMem, renderTCd,
      renderTCc, renderCofun, line, joinOperands, memOperand, operandsWidth] <;>
    omega

/-- R105: the rows of long mnemonics have short operands. -/
theorem row_width_le (nm : RegNaming) :
    ∀ r ∈ mipsI, r.op.mnemonic.length + operandsWidth (registerWidth nm) r.fmt ≤ 22 + registerWidth nm := by
  cases nm <;> decide

/-! ## The text of a step -/

theorem step_text_printable {st t : State} (h : step st = .next t) : Printable t.decoded.text := by
  obtain ⟨r, hr, -, rfl⟩ | ⟨-, rfl⟩ := step_row_cases h
  · rw [State.drive_decoded_text]
    cases st.sample.decoded.nop
    · exact printable_dispatchMux _ (fmt_ne_unk hr) (printable_mnemonic _) _
    · simp
  · simp

/-- R105: a text has at most 25 characters under `NUMERIC` and 27 under `ABI`. -/
theorem step_text_length_le {st t : State} (h : step st = .next t) :
    t.decoded.text.length ≤ 22 + registerWidth st.regNaming := by
  obtain ⟨r, hr, -, rfl⟩ | ⟨-, rfl⟩ := step_row_cases h
  · rw [State.drive_decoded_text]
    cases st.sample.decoded.nop
    · exact (text_length_le _ _ _ _).trans (row_width_le _ r hr)
    · simp
      omega
  · simp
    omega

theorem registerWidth_le (nm : RegNaming) : registerWidth nm ≤ 5 := by
  cases nm <;> decide

/-! ## The port -/

theorem textByte_of_lt {text : Text} (hp : Printable text) {k : Nat} (h : k < text.length) :
    (textByte text k).toNat = text[k].toNat := by
  have hk := hp text[k] (List.getElem_mem h)
  simp only [textByte, List.getElem?_eq_getElem h, BitVec.toNat_ofNat]
  omega

theorem textByte_of_ge {text : Text} {k : Nat} (h : text.length ≤ k) : textByte text k = 0x00#8 := by
  simp only [textByte, List.getElem?_eq_none h]

/-- Settles O29: a printable text of at most 32 characters fills the port up to its length. -/
theorem textPort : Obligations.TextPort := by
  intro st
  obtain ⟨t, h⟩ := step_answers st
  have hp := step_text_printable h
  have hl : t.decoded.text.length ≤ 32 :=
    (step_text_length_le h).trans (by have := registerWidth_le st.regNaming; omega)
  have hb (k : Nat) (hk : k < 32) : t.ports.text_o[k] = textByte t.decoded.text k := by simp [State.ports]
  refine ⟨t, h, hl, ?_, fun k hk => ⟨fun hlt => ?_, fun hge => ?_⟩⟩
  · simp only [State.ports, BitVec.toNat_ofNat]
    omega
  · rw [hb k hk, textByte_of_lt hp hlt]
    exact ⟨rfl, hp _ (List.getElem_mem hlt)⟩
  · rw [hb k hk, textByte_of_ge hge]

end Sys2Proof.Machine


/-! PROOFS. The family of 42_special.md: the rules R110 to R137 of the rows under `function` = 0x00, from the word to every
output. Each is the rule of a row of the table whose renderer puts out what the rule writes out. -/

namespace Sys2Proof.Machine

/-! ## From a row of the table to its rule -/

/-- The state of a rule on the sampled state, every output written out: `copz` and `nop` are those of the next word. -/
theorem State.sample_showing_eq (st : State) (op : Op) (shape : Shape) (fmt : Fmt) (x : Shown) :
    st.sample.showing op shape fmt x =
      { regNaming := st.regNaming, instr_i := st.nextWord, pending := st.pending.tail, fields := fieldsOf st.nextWord,
        decoded := ⟨true, op, shape, fmt, Extract.copz st.nextWord, decide (st.nextWord = 0#32), x.operands,
          if st.nextWord = 0#32 then "nop".toList else x.text⟩ } := by
  simp only [State.showing, State.sample_eq, nopFlag_eq_decide, decide_eq_true_eq]

/-- A row of the table has a rule: with the two codes of the row, it shows what the mux passes on for the row's
renderer. -/
theorem rowRule_of_mem {code fmtCode : Nat} {op : Op} {matchBits mask : Word} {shape : Shape} {fmt : Fmt}
    {shown : RegNaming → Word → Shown} (hr : ⟨op, matchBits, mask, shape, fmt⟩ ∈ mipsI)
    (hop : op.code = BitVec.ofNat 7 code) (hfmt : fmt.code = BitVec.ofNat 5 fmtCode)
    (hmux : ∀ nm w, dispatchMux nm fmt op.mnemonic w = (shown nm w).rendering fmt) :
    RowRule code op matchBits mask shape fmt fmtCode shown := by
  refine ⟨hop, hfmt, fun st hc => ?_⟩
  rw [step_of_covers hr hc, hmux, State.drive_rendering, State.sample_showing_eq]

/-! ## The rows under `function` = 0x00 -/

/-- Settles O40: R110 to R112 by R84, R113 to R115 by R85, `jr` by R86, `jalr` by R87, `syscall` and `break` by R82. -/
theorem rowsShiftJump : Obligations.RowsShiftJump := by
  refine ⟨?_, ?_, ?_, ?_, ?_, ?_, ?_, ?_, ?_, ?_⟩
  iterate 3 exact rowRule_of_mem (by decide) rfl rfl fun _ _ => renderDTSh_eq _ _ _ _ _
  iterate 3 exact rowRule_of_mem (by decide) rfl rfl fun _ _ => renderDTS_eq _ _ _ _ _
  · exact rowRule_of_mem (by decide) rfl rfl fun _ _ => renderS_eq _ _ _
  · exact rowRule_of_mem (by decide) rfl rfl fun _ _ => renderDS_eq _ _ _ _
  iterate 2 exact rowRule_of_mem (by decide) rfl rfl fun _ _ => renderNone_eq _

/-- Settles O41: the moves from HI and LO by R88, the moves to them by R86, multiply and divide by R89. -/
theorem rowsHiLoMultiply : Obligations.RowsHiLoMultiply := by
  refine ⟨?_, ?_, ?_, ?_, ?_, ?_, ?_, ?_⟩
  iterate 2
    · exact rowRule_of_mem (by decide) rfl rfl fun _ _ => renderD_eq _ _ _
    · exact rowRule_of_mem (by decide) rfl rfl fun _ _ => renderS_eq _ _ _
  iterate 4 exact rowRule_of_mem (by decide) rfl rfl fun _ _ => renderST_eq _ _ _ _

/-- Settles O42: all ten rows by R83. -/
theorem rowsThreeRegister : Obligations.RowsThreeRegister := by
  refine ⟨?_, ?_, ?_, ?_, ?_, ?_, ?_, ?_, ?_, ?_⟩
  all_goals exact rowRule_of_mem (by decide) rfl rfl fun _ _ => renderDST_eq _ _ _ _ _

end Sys2Proof.Machine


/-! PROOFS. The family of 43_branch_jump.md: the rules R138 to R147 of the branches and jumps, from the word to every output,
by the same lemma as those of 42_special.md. -/

namespace Sys2Proof.Machine

/-- Settles O43: the branches on one register (R138 to R141, R146, R147) by R94, `j` and `jal` by R96, `beq` and `bne` by
R93. -/
theorem rowsBranchJump : Obligations.RowsBranchJump := by
  refine ⟨?_, ?_, ?_, ?_, ?_, ?_, ?_, ?_, ?_, ?_⟩
  iterate 4 exact rowRule_of_mem (by decide) rfl rfl fun _ _ => renderSBr_eq _ _ _ _
  iterate 2 exact rowRule_of_mem (by decide) rfl rfl fun _ _ => renderJt_eq _ _
  iterate 2 exact rowRule_of_mem (by decide) rfl rfl fun _ _ => renderSTBr_eq _ _ _ _ _
  iterate 2 exact rowRule_of_mem (by decide) rfl rfl fun _ _ => renderSBr_eq _ _ _ _

end Sys2Proof.Machine


/-! PROOFS. The family of 44_immediate.md: the rules R148 to R155 of the immediate arithmetic and logic, from the word to
every output, by the same lemma as those of 42_special.md. -/

namespace Sys2Proof.Machine

/-- Settles O44: the signed immediates (R148 to R151) by R90, the unsigned ones (R152 to R154) by R91, `lui` by R92. -/
theorem rowsImmediate : Obligations.RowsImmediate := by
  refine ⟨?_, ?_, ?_, ?_, ?_, ?_, ?_, ?_⟩
  iterate 4 exact rowRule_of_mem (by decide) rfl rfl fun _ _ => renderTSIs_eq _ _ _ _ _
  iterate 3 exact rowRule_of_mem (by decide) rfl rfl fun _ _ => renderTSIu_eq _ _ _ _ _
  · exact rowRule_of_mem (by decide) rfl rfl fun _ _ => renderTIu_eq _ _ _ _

end Sys2Proof.Machine


/-! PROOFS. The family of 45_load_store.md: the rules R156 to R175 of the loads and stores, from the word to every output.
The renderer of the coprocessor rows takes the coprocessor number from the word; their rules write out that of the row. -/

namespace Sys2Proof.Machine

/-! ## Loads and stores -/

/-- Settles O45: all twelve rows by R97. -/
theorem rowsLoadStore : Obligations.RowsLoadStore := by
  refine ⟨?_, ?_, ?_, ?_, ?_, ?_, ?_, ?_, ?_, ?_, ?_, ?_⟩
  all_goals exact rowRule_of_mem (by decide) rfl rfl fun _ _ => renderTMem_eq _ _ _ _ _

/-! ## The rows of a coprocessor -/

/-- R69: a word that a row of the coprocessor `z` covers carries `z`. -/
theorem copz_of_covers {r : Row} (hr : r ∈ mipsI) {w : Word} (hc : w &&& r.mask = r.matchBits) {z : BitVec 2}
    (ho : r.op ∈ coprocessorOps z) : Extract.copz w = z := by
  rw [copz_of_function, function_of_covers hr hc]
  exact copz_of_coprocessorOps r hr z ho

/-- A row of the coprocessor `z` has a rule: `rowRule_of_mem`, of which the mux is asked only on words that carry `z`. -/
theorem rowRule_of_coprocessor_mem {code fmtCode : Nat} {op : Op} {matchBits mask : Word} {shape : Shape} {fmt : Fmt}
    {shown : RegNaming → Word → Shown} {z : BitVec 2} (hr : ⟨op, matchBits, mask, shape, fmt⟩ ∈ mipsI)
    (ho : op ∈ coprocessorOps z) (hop : op.code = BitVec.ofNat 7 code) (hfmt : fmt.code = BitVec.ofNat 5 fmtCode)
    (hmux : ∀ nm w, Extract.copz w = z → dispatchMux nm fmt op.mnemonic w = (shown nm w).rendering fmt) :
    RowRule code op matchBits mask shape fmt fmtCode shown := by
  refine ⟨hop, hfmt, fun st hc => ?_⟩
  rw [step_of_covers hr hc, hmux _ _ (copz_of_covers hr hc ho), State.drive_rendering, State.sample_showing_eq]

/-! ## Coprocessor loads and stores -/

theorem dispatchMux_ctMem_of_copz (nm : RegNaming) (mn : String) {w : Word} {z : BitVec 2} (hz : Extract.copz w = z) :
    dispatchMux nm .F_CT_MEM mn.toList w =
      (shownCtMem nm mn z (Extract.t w) (Extract.imm_se w) (Extract.s w)).rendering .F_CT_MEM := by
  subst hz
  exact renderCtMem_eq _ _ _ _ _ _

/-- Settles O46: all eight rows by R98, with the coprocessor number of the row. -/
theorem rowsCoprocessorLoadStore : Obligations.RowsCoprocessorLoadStore := by
  refine ⟨?_, ?_, ?_, ?_, ?_, ?_, ?_, ?_⟩
  all_goals exact rowRule_of_coprocessor_mem (by decide) (by decide) rfl rfl fun _ _ => dispatchMux_ctMem_of_copz _ _

end Sys2Proof.Machine


/-! PROOFS. The family of 46_coprocessor.md: the rules R176 to R207 of the coprocessor moves, branches and operations, from
the word to every output. The moves name a register of the coprocessor of the row, as the loads and stores of
45_load_store.md do; the other rows show no coprocessor register. -/

namespace Sys2Proof.Machine

/-! ## Moves from and to coprocessor registers -/

theorem dispatchMux_tCd_of_copz (nm : RegNaming) (mn : String) {w : Word} {z : BitVec 2} (hz : Extract.copz w = z) :
    dispatchMux nm .F_T_CD mn.toList w = (shownTCd nm mn z (Extract.t w) (Extract.d w)).rendering .F_T_CD := by
  subst hz
  exact renderTCd_eq _ _ _ _ _

theorem dispatchMux_tCc_of_copz (nm : RegNaming) (mn : String) {w : Word} {z : BitVec 2} (hz : Extract.copz w = z) :
    dispatchMux nm .F_T_CC mn.toList w = (shownTCc nm mn z (Extract.t w) (Extract.d w)).rendering .F_T_CC := by
  subst hz
  exact renderTCc_eq _ _ _ _ _

/-- Settles O47: the moves of data registers (R176 to R179, R184 to R187) by R99, those from control registers (R180 to
R183) by R100, each with the coprocessor number of the row. -/
theorem rowsCoprocessorMove : Obligations.RowsCoprocessorMove := by
  refine ⟨?_, ?_, ?_, ?_, ?_, ?_, ?_, ?_, ?_, ?_, ?_, ?_⟩
  iterate 4 exact rowRule_of_coprocessor_mem (by decide) (by decide) rfl rfl fun _ _ => dispatchMux_tCd_of_copz _ _
  iterate 4 exact rowRule_of_coprocessor_mem (by decide) (by decide) rfl rfl fun _ _ => dispatchMux_tCc_of_copz _ _
  iterate 4 exact rowRule_of_coprocessor_mem (by decide) (by decide) rfl rfl fun _ _ => dispatchMux_tCd_of_copz _ _

/-! ## Moves to control registers and coprocessor branches -/

/-- Settles O48: the moves to control registers (R188 to R191) by R100, with the coprocessor number of the row, the
branches (R192 to R199) by R95. -/
theorem rowsControlBranch : Obligations.RowsControlBranch := by
  refine ⟨?_, ?_, ?_, ?_, ?_, ?_, ?_, ?_, ?_, ?_, ?_, ?_⟩
  iterate 4 exact rowRule_of_coprocessor_mem (by decide) (by decide) rfl rfl fun _ _ => dispatchMux_tCc_of_copz _ _
  iterate 8 exact rowRule_of_mem (by decide) rfl rfl fun _ _ => renderBr_eq _ _

/-! ## Coprocessor operations -/

/-- Settles O49: the named operations (R200 to R204) by R82, the generic ones (R205 to R207) by R101. -/
theorem rowsOperation : Obligations.RowsOperation := by
  refine ⟨?_, ?_, ?_, ?_, ?_, ?_, ?_, ?_⟩
  iterate 5 exact rowRule_of_mem (by decide) rfl rfl fun _ _ => renderNone_eq _
  iterate 3 exact rowRule_of_mem (by decide) rfl rfl fun _ _ => renderCofun_eq _ _

end Sys2Proof.Machine


/-! PROOFS. The family of 47_unknown.md: the outputs for a word of no row (R208), that such a word leaves nothing behind
(R209), and that under any table these are the words of none of its rows (R212). -/

namespace Sys2Proof.Machine

/-! ## The unknown outcome under any rows -/

/-- R208 and R212: a word of no row of `T` gives the outputs of the unknown renderer, and those that are wiring of the
word. -/
theorem decodedOfRows_of_not_covers {T : List Row} {w : Word} (hn : ∀ r ∈ T, w &&& r.mask ≠ r.matchBits)
    (nm : RegNaming) :
    decodedOfRows T nm w =
      ⟨false, .UNKNOWN, .NONE, .F_UNK, Extract.copz w, nopFlag w, [],
        muxText (nopFlag w) ("unknown 0x".toList ++ hex8 w)⟩ := by
  simp only [decodedOfRows, findRow_eq_none_iff.2 hn, renderUnk]

/-- A word is known exactly when a row of the table covers it. -/
theorem decodedOfRows_known_iff (T : List Row) (nm : RegNaming) (w : Word) :
    (decodedOfRows T nm w).known = true ↔ ∃ r ∈ T, w &&& r.mask = r.matchBits := by
  cases h : findRow T w with
  | some r =>
    obtain ⟨hr, hc⟩ := mem_of_findRow h
    rw [decodedOfRows_of_findRow h]
    exact iff_of_true rfl ⟨r, hr, beq_iff_eq.1 hc⟩
  | none =>
    have hn := findRow_eq_none_iff.1 h
    rw [decodedOfRows_of_not_covers hn]
    exact iff_of_false Bool.false_ne_true fun ⟨r, hr, hc⟩ => hn r hr hc

/-- Settles O19: the search of any rows fails on a word of none of them, and a row that covers a word still does so in a
larger table. -/
theorem anyTable : Obligations.AnyTable := by
  refine ⟨fun T nm w hn hw => ?_, fun T nm w hn => ?_, fun T U nm w hTU hk => ?_⟩
  · have hnop : nopFlag w = false := by rw [nopFlag_eq_decide, decide_eq_false hw]
    rw [decodedOfRows_of_not_covers hn, hnop, muxText_false]
  · rw [decodedOfRows_of_not_covers hn]
    exact ⟨rfl, rfl, rfl⟩
  · obtain ⟨r, hr, hc⟩ := (decodedOfRows_known_iff T nm w).1 hk
    exact (decodedOfRows_known_iff U nm w).2 ⟨r, hTU r hr, hc⟩

/-! ## The unknown outcome of a step -/

@[simp] theorem slot_nil (k : Nat) : slot [] k = ⟨.NONE, 0#32⟩ := rfl

/-- R81: the text of the unknown outcome has ten characters and the eight digits of the word. -/
theorem unknown_text_length (w : Word) : ("unknown 0x".toList ++ hex8 w).length = 18 := by
  rw [List.length_append, hex8_length]
  rfl

/-- Settles O50: the step drives the unknown outcome, `nop` is 0 because the word 0 has a row, and each port shows its
value of the outcome. -/
theorem unknownOutcome : Obligations.UnknownOutcome := by
  intro st hn
  have hnop := nopFlag_of_not_covers hn
  refine ⟨_, step_of_not_covers hn, ?_, rfl, rfl, rfl, rfl, rfl, ?_, rfl, fun k hk => ?_, ?_⟩
  · rw [State.driveUnknown_eq, State.sample_eq, hnop]
  · exact congrArg BitVec.ofBool hnop
  · simp [State.ports, OperandKind.code]
  · exact congrArg (BitVec.ofNat 6) (unknown_text_length st.nextWord)

/-! ## No trace -/

/-- A step answers by the naming style, the next word and the rest of the queue, whatever the outputs show. -/
theorem step_congr {a b : State} (hn : a.regNaming = b.regNaming) (hw : a.nextWord = b.nextWord)
    (hq : a.pending.tail = b.pending.tail) : step a = step b := by
  rw [everyStepDecodes a, everyStepDecodes b, hn, hw, hq]

/-- Settles O10: the first step changes neither the naming nor the words behind its own, and the second step reads
nothing else. That the first word is unknown plays no part: no word leaves a trace. -/
theorem unknownLeavesNoTrace : Obligations.UnknownLeavesNoTrace := by
  intro st w v rest hp _
  obtain ⟨t, ht⟩ := step_answers st
  obtain ⟨u, hu⟩ := step_answers t
  obtain ⟨hn, -, hq, -, -, -⟩ := step_frame ht
  have hpt : t.pending = v :: rest := by rw [hq, hp, List.tail_cons]
  have hw : t.nextWord = v := t.nextWord_of_pending_cons v rest hpt
  have same : step { st with pending := v :: rest } = step t := step_congr hn.symm hw.symm (by rw [hpt])
  exact ⟨t, u, ht, hu, same.trans hu⟩

end Sys2Proof.Machine


/-! PROOFS. The family of 60_exceptions.md: no word and no instruction makes the block stop (R216, R218). -/

namespace Sys2Proof.Machine

/-- Settles O8: a step puts out the row of the table that covers the next word, and where none does the unknown outcome;
a meaning drives its own instruction. -/
theorem neverStops : Obligations.NeverStops := by
  refine ⟨fun st => ?_, fun i st => ?_⟩
  · obtain ⟨r, hr, -, hs⟩ | ⟨-, hs⟩ := step_outcome st
    · exact ⟨_, hs, .inl ⟨State.drive_decoded_known .., r, hr, State.drive_decoded_op ..⟩⟩
    · exact ⟨_, hs, .inr ⟨State.driveUnknown_decoded_known _, State.driveUnknown_decoded_op _⟩⟩
  · obtain ⟨shape, r, hs⟩ := exec_drives i st
    exact ⟨_, hs⟩

end Sys2Proof.Machine


/-! PROOFS. The family of 70_reset_and_hazards.md: after every step the outputs are those of the word presented (R242), the
state after reset (R236, R237), and a batch of words (R248). -/

namespace Sys2Proof.Machine

/-! ## The outputs after a step -/

/-- A step leaves the outputs settled, whatever they showed before. -/
theorem step_settled {st t : State} (h : step st = .next t) : t.Settled := by
  cases h.symm.trans (everyStepDecodes st)
  exact ⟨rfl, rfl⟩

/-- Settles O6: the outputs after a step are those of the word it presents; that they were settled before plays no
part. -/
theorem stepKeepsSettled : Obligations.StepKeepsSettled := by
  intro st t _ h
  obtain ⟨hn, -, -, -, -, -⟩ := step_frame h
  exact ⟨step_settled h, hn⟩

/-- Settles O7: the outputs of the reset state are written out, and are those of the word 0. -/
theorem resetSettled : Obligations.ResetSettled :=
  ⟨rfl, rfl, rfl, by decide, rfl, rfl, rfl, rfl⟩

/-- Settles O12: the state on which a meaning runs is the sampled one. -/
theorem stepRunsDecoded : Obligations.StepRunsDecoded := by
  intro st p hp
  rw [← nopFlag_eq_decide, ← State.sample_eq] at hp
  subst hp
  exact ⟨fun _ => step_of_row, fun _ => step_of_unknown⟩

/-! ## A batch -/

/-- R248: a run over the words `ws` of the queue lists their decodes in order. -/
theorem runResults_eq_decodeBatch (ws : List Word) (st : State) (h : st.pending = ws) :
    runResults ws.length st = decodeBatch mipsITable st.regNaming ws := by
  induction ws generalizing st with
  | nil => rfl
  | cons w ws ih =>
    have hw : st.nextWord = w := st.nextWord_of_pending_cons w ws h
    have hq : st.pending.tail = ws := by rw [h, List.tail_cons]
    rw [List.length_cons, runResults, everyStepDecodes st]
    simp only [hw]
    exact congrArg (_ :: ·) (ih _ hq)

/-- Settles O11: by induction on the queue, one step a word. -/
theorem batchRun : Obligations.BatchRun := fun st => runResults_eq_decodeBatch st.pending st rfl

end Sys2Proof.Machine


/-! PROOFS. The decode table of 30_encoding.md and the classifier of 41_dispatch_render.md R65: the one row of a word (R66,
R220), the examined bits (R40), the conditions of R46 on the default table, and the words of the encoder (R108). -/

namespace Sys2Proof.Machine

/-! ## The rows that cover a word -/

/-- R220: at most one row of the table covers a word. -/
theorem row_unique {r q : Row} (hr : r ∈ mipsI) (hq : q ∈ mipsI) {w : Word} (hcr : w &&& r.mask = r.matchBits)
    (hcq : w &&& q.mask = q.matchBits) : q = r :=
  Option.some_inj.1 ((mipsITable.findRow_eq hq (beq_iff_eq.2 hcq)).symm.trans
    (mipsITable.findRow_eq hr (beq_iff_eq.2 hcr)))

/-- Settles O14: a step puts out the row that covers the word, of which there is at most one, or the unknown outcome. -/
theorem knownIffRow : Obligations.KnownIffRow := by
  intro st
  obtain ⟨r, hr, hc, hs⟩ | ⟨hn, hs⟩ := step_outcome st
  · refine ⟨_, hs, iff_of_true rfl ⟨r, hr, hc⟩, iff_of_false (by simp [State.ports]) fun hn => hn r hr hc,
      fun q hq hcq => ?_⟩
    cases row_unique hr hq hc hcq
    exact ⟨rfl, fun q hq hcq => row_unique hr hq hc hcq⟩
  · exact ⟨_, hs, iff_of_false (by simp [State.ports]) fun ⟨r, hr, hc⟩ => hn r hr hc, iff_of_true rfl hn,
      fun r hr hc => absurd hc (hn r hr)⟩

/-! ## The default table -/

/-- Settles O15: the default table carries its proof of R46, and its rows are counted. -/
theorem tableAdmissible : Obligations.TableAdmissible := ⟨mipsITable.admissible, rfl⟩

/-- Settles O20: a finite fact about the 98 rows and the 21 renderers. -/
theorem rendererUsage : Obligations.RendererUsage := by
  unfold Obligations.RendererUsage
  decide

/-- Settles O54: each word by the arm of the classifier that its `function` selects. -/
theorem decodeWrittenWords : Obligations.DecodeWrittenWords := by
  and_intros
  all_goals decide

end Sys2Proof.Machine

namespace Sys2Proof

open Extract Machine

/-- Settles O56: each arm of the classifier, encoded again on the words it recognises, gives the word. -/
theorem decodeThenEncode : Obligations.DecodeThenEncode := fun _ _ => encodeWith_decode

/-! ## The examined bits -/

/-- A row's match has no bit outside its mask. -/
theorem Row.wellFormed_match {r : Row} (h : r.wellFormed = true) : r.matchBits &&& r.mask = r.matchBits := by
  simp only [Row.wellFormed, Bool.and_eq_true, beq_iff_eq] at h
  obtain ⟨⟨⟨⟨-, hm⟩, -⟩, -⟩, -⟩ := h
  exact hm

theorem match_and_mask {r : Row} (hr : r ∈ mipsI) : r.matchBits &&& r.mask = r.matchBits :=
  Row.wellFormed_match (mipsITable.conditions.1 r hr)

/-- The mask of a row is the examined bits of its words, but for the three generic operations (30_encoding.md R40). -/
theorem mask_of_row : ∀ r ∈ mipsI,
    if r.op ∈ [.cop1, .cop2, .cop3] then r.mask = 0xFE000000#32 else r.mask = examinedBits r.matchBits := by
  decide

/-- The generic operations belong to a coprocessor. -/
theorem function_of_generic_row : ∀ r ∈ mipsI, r.op ∈ [Op.cop1, .cop2, .cop3] →
    0x10#6 ≤ function r.matchBits ∧ function r.matchBits ≤ 0x13#6 := by
  decide

/-- `function` is always examined. -/
theorem function_examinedBits (w : Word) : function (examinedBits w) = 0x3F#6 := by
  unfold examinedBits
  split_ifs <;> rfl

/-- For a coprocessor `function`, `cop_opcode` is examined too. -/
theorem s_examinedBits {w : Word} (h : 0x10#6 ≤ function w ∧ function w ≤ 0x13#6) : s (examinedBits w) = 0x1F#5 := by
  have h0 : function w ≠ 0x00#6 := fun e => by rw [e] at h; exact absurd h (by decide)
  have h1 : function w ≠ 0x01#6 := fun e => by rw [e] at h; exact absurd h (by decide)
  rw [examinedBits, if_neg h0, if_neg h1, if_pos h]
  split_ifs <;> rfl

/-- Which bits are examined is itself decided by examined bits. -/
theorem examinedBits_congr {v w : Word} (h : v &&& examinedBits v = w &&& examinedBits v) :
    examinedBits w = examinedBits v := by
  obtain ⟨hf, hs, -⟩ := (and_eq_and_iff v w (examinedBits v)).1 h
  rw [function_examinedBits, and_ones6, and_ones6] at hf
  by_cases hc : 0x10#6 ≤ function v ∧ function v ≤ 0x13#6
  · rw [s_examinedBits hc, and_ones5, and_ones5, s_eq_cop_opcode, s_eq_cop_opcode] at hs
    simp only [examinedBits, hf, hs]
  · simp only [examinedBits, ← hf, if_neg hc]

/-- The row that covers a word looks at examined bits of the word only. -/
theorem mask_and_examinedBits {r : Row} (hr : r ∈ mipsI) {w : Word} (hc : w &&& r.mask = r.matchBits) :
    r.mask &&& examinedBits w = r.mask := by
  have hm := mask_of_row r hr
  split at hm
  · rename_i generic
    have cop := function_of_generic_row r hr generic
    rw [← function_of_covers hr hc] at cop
    rw [hm]
    apply word_ext <;> simp [function_examinedBits, s_examinedBits cop]
  · have agree : r.matchBits &&& examinedBits r.matchBits = w &&& examinedBits r.matchBits := by
      rw [← hm, hc, match_and_mask hr]
    rw [examinedBits_congr agree, ← hm, BitVec.and_self]

/-- A row that covers a word covers every word with the same examined bits. -/
theorem covers_of_examinedBits_eq {r : Row} (hr : r ∈ mipsI) {v w : Word}
    (h : v &&& examinedBits v = w &&& examinedBits v) (hc : v &&& r.mask = r.matchBits) :
    w &&& r.mask = r.matchBits := by
  have examined := mask_and_examinedBits hr hc
  calc w &&& r.mask = w &&& examinedBits v &&& r.mask := by
        rw [BitVec.and_assoc, BitVec.and_comm (examinedBits v), examined]
    _ = v &&& examinedBits v &&& r.mask := by rw [h]
    _ = v &&& r.mask := by rw [BitVec.and_assoc, BitVec.and_comm (examinedBits v), examined]
    _ = r.matchBits := hc

/-- Settles O18: the words have the same examined bits, so the row of the one is the row of the other. -/
theorem unexaminedBits : Obligations.UnexaminedBits := by
  refine ⟨fun a b h => ?_, mask_of_row⟩
  have back : b.nextWord &&& examinedBits b.nextWord = a.nextWord &&& examinedBits b.nextWord := by
    rw [examinedBits_congr h, h]
  obtain ⟨r, hr, hc, hs⟩ | ⟨hn, hs⟩ := step_outcome a
  · exact ⟨_, _, hs, step_of_covers hr (covers_of_examinedBits_eq hr h hc), rfl, rfl, rfl, by simp⟩
  · exact ⟨_, _, hs, step_of_not_covers fun r hr hc => hn r hr (covers_of_examinedBits_eq hr back hc), rfl, rfl, rfl,
      rfl⟩

end Sys2Proof


/-! PROOFS. The fields of a word and the bytes of a word: the accessors of 40_field_extract.md are independent and recover the
word (R63), the scaled fields of 41_dispatch_render.md (R78, R79), and the host's assembly of 20_memory.md (R26). -/

namespace Sys2Proof.Machine

/-! ## The host's assembly -/

/-- A concatenation is the upper part, scaled by the width of the lower part, and the lower part. -/
theorem toNat_append_eq_add {m n : Nat} (x : BitVec m) (y : BitVec n) :
    (x ++ y).toNat = x.toNat * 2 ^ n + y.toNat := by
  rw [BitVec.toNat_append, ← Nat.shiftLeft_add_eq_or_of_lt y.isLt, Nat.shiftLeft_eq]

theorem decodeBytes_of_short (order : HostByteOrder) {bs : List Byte} (h : bs.length < 4) :
    decodeBytes order bs = none := by
  match bs with
  | [] | [_] | [_, _] | [_, _, _] => rfl
  | _ :: _ :: _ :: _ :: _ =>
    simp only [List.length_cons] at h
    omega

/-- Settles O57: the word is the concatenation of the bytes in the order of the host. -/
theorem hostAssembly : Obligations.HostAssembly := by
  refine ⟨fun b0 b1 b2 b3 => ?_, fun b0 b1 b2 b3 => ?_, fun _ _ _ _ _ _ => rfl, fun o _ => decodeBytes_of_short o⟩
  all_goals
    simp only [assemble, toNat_append_eq_add]
    omega

/-! ## Displacement and target -/

/-- Settles O26: both are 4 times a field, and the signed immediate has 16 bits. -/
theorem displacementAndTarget : Obligations.DisplacementAndTarget := by
  intro w
  obtain ⟨lower, upper⟩ := imm_se_toInt_bounds w
  have hj : (Extract.imm_jump w).toNat = w.toNat % 2 ^ 26 := low_slice_toNat w 26
  refine ⟨⟨?_, ?_, ?_, Dvd.intro _ rfl⟩, ?_, ?_, Dvd.intro _ rfl⟩
  · rw [broff, imm_se_toInt_cases]
  · unfold broff; omega
  · unfold broff; omega
  · rw [jtarget, hj]
  · unfold jtarget; omega

end Sys2Proof.Machine

namespace Sys2Proof

open Extract Machine

/-! ## A field and the bits of its range -/

/-- The bits of the range of `n` bits from bit `lo` on. -/
def rangeMask (lo n : Nat) : Word := (BitVec.allOnes n).setWidth 32 <<< lo

/-- A word under the mask of a range is its slice, put back in place. -/
theorem and_rangeMask (lo n : Nat) (w : Word) :
    w &&& rangeMask lo n = (w.extractLsb' lo n).setWidth 32 <<< lo := by
  ext i hi
  by_cases h : i < lo
  · simp [rangeMask, h]
  · have place : lo + (i - lo) = i := by omega
    simp [rangeMask, h, place, BitVec.getLsbD_eq_getElem hi, Bool.and_comm]

/-- The slice of a range reads only the bits of the range. -/
theorem slice_and_rangeMask {lo n : Nat} (hn : lo + n ≤ 32) (w : Word) :
    (w &&& rangeMask lo n).extractLsb' lo n = w.extractLsb' lo n := by
  ext i hi
  have h : lo + i < 32 := by omega
  simp [rangeMask, h, hi]

/-- R63 (a): two words have the same slice exactly when they agree on the bits of its range. -/
theorem slice_eq_iff {lo n : Nat} (hn : lo + n ≤ 32) (v w : Word) :
    v.extractLsb' lo n = w.extractLsb' lo n ↔ v &&& rangeMask lo n = w &&& rangeMask lo n := by
  refine ⟨fun h => ?_, fun h => ?_⟩
  · rw [and_rangeMask, and_rangeMask, h]
  · rw [← slice_and_rangeMask hn v, h, slice_and_rangeMask hn w]

theorem imm_eq_iff (v w : Word) : imm v = imm w ↔ v &&& 0x0000FFFF#32 = w &&& 0x0000FFFF#32 :=
  slice_eq_iff (lo := 0) (n := 16) (by decide) v w

/-- Sign extension loses nothing: the low half of `imm_se` is `imm`. -/
theorem imm_se_eq_iff (v w : Word) : imm_se v = imm_se w ↔ imm v = imm w := by
  refine ⟨fun h => BitVec.eq_of_toNat_eq ?_, congrArg sext⟩
  rw [← imm_se_toNat_mod, ← imm_se_toNat_mod, h]

/-! ## Fields of disjoint ranges -/

/-- R63 (c): any six values are the six partitioning fields of a word. -/
theorem exists_word_of_fields (f : BitVec 6) (a b c e : BitVec 5) (g : BitVec 6) :
    ∃ w : Word, function w = f ∧ s w = a ∧ t w = b ∧ d w = c ∧ shift w = e ∧ subfunction w = g := by
  refine ⟨f ++ a ++ b ++ c ++ e ++ g, ?_, ?_, ?_, ?_, ?_, ?_⟩
  all_goals
    apply BitVec.eq_of_toNat_eq
    simp only [function, s, t, d, shift, subfunction, slice_toNat, toNat_append_eq_add]
    omega

/-- R63 (d): the word is the sum of its fields, each at its place. -/
theorem word_toNat_of_fields (w : Word) :
    w.toNat = (function w).toNat * 2 ^ 26 + (s w).toNat * 2 ^ 21 + (t w).toNat * 2 ^ 16 + (imm w).toNat := by
  rw [function_toNat, imm_toNat, s, t, slice_toNat, slice_toNat]
  omega

theorem imm_toNat_of_fields (w : Word) :
    (imm w).toNat = (d w).toNat * 2 ^ 11 + (shift w).toNat * 2 ^ 6 + (subfunction w).toNat := by
  rw [imm_of_fields, toNat_append_eq_add, toNat_append_eq_add]
  omega

theorem imm_jump_toNat_of_fields (w : Word) :
    (imm_jump w).toNat = (s w).toNat * 2 ^ 21 + (t w).toNat * 2 ^ 16 + (imm w).toNat := by
  rw [imm_jump_of_fields, toNat_append_eq_add, toNat_append_eq_add]
  omega

/-- Settles O4: (a) by the mask of each range, (b) and (c) by words that hold the given fields, (d) and (e) by the sums
of fields. -/
theorem fieldIndependence : Obligations.FieldIndependence := by
  refine ⟨fun _ _ => slice_eq_iff (lo := 26) (n := 6) (by decide) _ _,
    fun _ _ => slice_eq_iff (lo := 21) (n := 5) (by decide) _ _,
    fun _ _ => slice_eq_iff (lo := 21) (n := 5) (by decide) _ _,
    fun _ _ => slice_eq_iff (lo := 16) (n := 5) (by decide) _ _,
    fun _ _ => slice_eq_iff (lo := 11) (n := 5) (by decide) _ _,
    fun _ _ => slice_eq_iff (lo := 6) (n := 5) (by decide) _ _,
    fun _ _ => slice_eq_iff (lo := 0) (n := 6) (by decide) _ _, imm_eq_iff,
    fun v w => (imm_se_eq_iff v w).trans (imm_eq_iff v w),
    fun _ _ => slice_eq_iff (lo := 0) (n := 26) (by decide) _ _, ?_⟩
  refine ⟨fun x => ⟨wordI x 0#5 0#5 0#16, by simp⟩, fun x => ⟨wordI 0#6 x 0#5 0#16, by simp⟩,
    fun x => ⟨wordI 0#6 x 0#5 0#16, by simp⟩, fun x => ⟨wordI 0#6 0#5 x 0#16, by simp⟩,
    fun x => ⟨wordR 0#5 0#5 x 0#5 0#6, by simp⟩, fun x => ⟨wordR 0#5 0#5 0#5 x 0#6, by simp⟩,
    fun x => ⟨wordR 0#5 0#5 0#5 0#5 x, by simp⟩, fun x => ⟨wordI 0#6 0#5 0#5 x, by simp⟩,
    fun x => ⟨wordJ 0#6 x, by simp⟩, fun x => ⟨wordI 0#6 0#5 0#5 x, by simp [imm_se, sext]⟩,
    fun w => ⟨imm w, rfl⟩, exists_word_of_fields, fun f a b i => ⟨wordI f a b i, by simp⟩,
    fun f j => ⟨wordJ f j, by simp⟩, fun w => ⟨s_eq_cop_opcode w, ?_, ?_, word_toNat_of_fields w,
      imm_toNat_of_fields w, imm_jump_toNat_of_fields w⟩⟩
  · rw [word_toNat_of_fields, imm_toNat_of_fields]
    ring
  · rw [word_toNat_of_fields, imm_jump_toNat_of_fields]
    ring

end Sys2Proof


/-! PROOFS. The operand lists of 41_dispatch_render.md (R71, R72) and the bounds of the text lengths (R105). -/

namespace Sys2Proof.Machine

/-! ## The operand descriptors -/

/-- The value of a widened field is bounded by the width of the field. -/
theorem toNat_setWidth_le {k bound : Nat} (x : BitVec k) (hk : k ≤ 32) (hb : 2 ^ k ≤ bound + 1) :
    (x.setWidth 32).toNat ≤ bound := by
  have := x.isLt
  rw [BitVec.toNat_setWidth_of_le hk]
  omega

@[simp] theorem opGpr_wellFormed (n : RegIdx) : (opGpr n).wellFormed = true :=
  decide_eq_true (toNat_setWidth_le n (by decide) (by decide))

@[simp] theorem opCprD_wellFormed (n : RegIdx) : (opCprD n).wellFormed = true :=
  decide_eq_true (toNat_setWidth_le n (by decide) (by decide))

@[simp] theorem opCprC_wellFormed (n : RegIdx) : (opCprC n).wellFormed = true :=
  decide_eq_true (toNat_setWidth_le n (by decide) (by decide))

@[simp] theorem opShamt_wellFormed (shift : BitVec 5) : (opShamt shift).wellFormed = true :=
  decide_eq_true (toNat_setWidth_le shift (by decide) (by decide))

@[simp] theorem opImmU_wellFormed (i : BitVec 16) : (opImmU i).wellFormed = true :=
  decide_eq_true (toNat_setWidth_le i (by decide) (by decide))

@[simp] theorem opJtarget_wellFormed (j : BitVec 26) : (opJtarget j).wellFormed = true :=
  decide_eq_true (toNat_setWidth_le j (by decide) (by decide))

@[simp] theorem opCofun_wellFormed (c : BitVec 25) : (opCofun c).wellFormed = true :=
  decide_eq_true (toNat_setWidth_le c (by decide) (by decide))

/-- The two ranges of a sign-extended 16-bit value. -/
theorem imm_se_toNat_ranges (w : Word) :
    (Extract.imm_se w).toNat ≤ 0x7FFF ∨ 0xFFFF8000 ≤ (Extract.imm_se w).toNat := by
  obtain ⟨lower, upper⟩ := imm_se_toInt_bounds w
  exact (toNat_ranges_of_toInt_bounds lower upper).imp_right And.left

@[simp] theorem opImmS_wellFormed (w : Word) : (opImmS (Extract.imm_se w)).wellFormed = true :=
  Bool.or_eq_true_iff.2 ((imm_se_toNat_ranges w).imp decide_eq_true decide_eq_true)

@[simp] theorem opBroff_wellFormed (w : Word) : (opBroff (Extract.imm_se w)).wellFormed = true :=
  Bool.or_eq_true_iff.2 ((imm_se_toNat_ranges w).imp decide_eq_true decide_eq_true)

/-- R71, R72: every renderer lists at most three descriptors, each in the range of its kind. -/
theorem operandsWellFormed_dispatchMux (nm : RegNaming) (fmt : Fmt) (mn : Text) (w : Word) :
    operandsWellFormed (dispatchMux nm fmt mn w).operands = true := by
  cases fmt <;>
    simp [operandsWellFormed, dispatchMux, renderUnk, renderNone, renderDST, renderDTSh, renderDTS, renderS, renderDS,
      renderD, renderST, renderTSIs, renderTSIu, renderTIu, renderSTBr, renderSBr, renderBr, renderJt, renderTMem,
      renderCtMem, renderTCd, renderTCc, renderCofun]

/-- The operand list of every step is well formed. -/
theorem step_operands_wellFormed {st t : State} (h : step st = .next t) :
    t.decoded.operands.length ≤ 3 ∧ ∀ o ∈ t.decoded.operands, o.wellFormed = true := by
  have wf : operandsWellFormed t.decoded.operands = true := by
    obtain ⟨r, -, -, rfl⟩ | ⟨-, rfl⟩ := step_row_cases h
    · exact operandsWellFormed_dispatchMux _ _ _ _
    · rfl
  simpa [operandsWellFormed] using wf

theorem slot_of_lt {operands : List Operand} {k : Nat} (h : k < operands.length) : slot operands k = operands[k] :=
  List.getD_eq_getElem operands _ h

theorem slot_of_ge {operands : List Operand} {k : Nat} (h : operands.length ≤ k) : slot operands k = ⟨.NONE, 0#32⟩ :=
  List.getD_eq_default operands _ h

/-- Settles O21: the ports show the slots of a list of at most three descriptors. -/
theorem operandSlots : Obligations.OperandSlots := by
  intro st
  obtain ⟨t, h⟩ := step_answers st
  obtain ⟨hl, -⟩ := step_operands_wellFormed h
  have hk (k : Nat) (hk : k < 3) : t.ports.opnd_kind_o[k] = (slot t.decoded.operands k).kind.code := by
    simp [State.ports]
  have hv (k : Nat) (hk : k < 3) : t.ports.opnd_val_o[k] = (slot t.decoded.operands k).value := by
    simp [State.ports]
  refine ⟨t, h, hl, ?_, fun k h3 => ⟨fun hlt => ?_, fun hge => ?_⟩⟩
  · simp only [State.ports, BitVec.toNat_ofNat]
    omega
  · rw [hk k h3, hv k h3, slot_of_lt hlt]
    exact ⟨rfl, rfl⟩
  · rw [hk k h3, hv k h3, slot_of_ge hge]
    exact ⟨rfl, rfl⟩

/-- R72: what a well-formed descriptor says of its kind and value. -/
theorem ranges_of_wellFormed {o : Operand} (h : o.wellFormed = true) :
    o.kind ≠ .NONE ∧
      (o.kind ∈ [.GPR, .CPR_D, .CPR_C, .SHAMT] → o.value.toNat ≤ 31) ∧
      (o.kind ∈ [.IMM_S, .BROFF] → o.value.toNat ≤ 0x7FFF ∨ 0xFFFF8000 ≤ o.value.toNat) ∧
      (o.kind = .IMM_U → o.value.toNat ≤ 0xFFFF) ∧ (o.kind = .JTARGET → o.value.toNat ≤ 0x3FFFFFF) ∧
      (o.kind = .COFUN → o.value.toNat ≤ 0x1FFFFFF) := by
  obtain ⟨kind, value⟩ := o
  cases kind
  case NONE => cases h
  all_goals simpa [Operand.wellFormed] using h

/-- Settles O22: every descriptor of a step is well formed. -/
theorem operandRanges : Obligations.OperandRanges :=
  ⟨fun _ _ h _ ho => ranges_of_wellFormed ((step_operands_wellFormed h).2 _ ho), rfl⟩

/-! ## The least and the greatest length of a text -/

theorem numeral_length_pos {base fuel n : Nat} (hf : 1 ≤ fuel) : 1 ≤ (numeral base fuel n []).length := by
  obtain ⟨k, rfl⟩ : ∃ k, fuel = k + 1 := ⟨fuel - 1, by omega⟩
  unfold numeral
  split
  · exact le_rfl
  · rw [numeral_append]
    simp

theorem dec_length_pos (v : Nat) : 1 ≤ (dec v).length := numeral_length_pos (by omega)

theorem sdecInt_length_pos (v : Int) : 1 ≤ (sdecInt v).length := by
  have := dec_length_pos v.natAbs
  unfold sdecInt
  split
  · simp
  · exact this

theorem gpr_length_pos (nm : RegNaming) (n : RegIdx) : 1 ≤ (gpr nm n).length := by
  have := gpr_length_le n
  cases nm <;> omega

/-- A line with operands is longer than its mnemonic by the space and the first operand at least. -/
theorem le_line_length {mn a : Text} {rest : List Text} (ha : 1 ≤ a.length) :
    mn.length + 2 ≤ (line mn (a :: rest)).length := by
  have : a.length ≤ (joinOperands (a :: rest)).length := by
    cases rest <;> simp [joinOperands]
  rw [line_cons, List.length_append, List.length_cons]
  omega

/-- R80: every renderer but those without operands writes at least two characters after the mnemonic. -/
theorem le_text_length (nm : RegNaming) {fmt : Fmt} (hf : fmt ≠ .F_UNK) (mn : Text) (w : Word) :
    mn.length + (if fmt = .F_NONE then 0 else 2) ≤ (dispatchMux nm fmt mn w).text.length := by
  cases fmt
  case F_UNK => exact absurd rfl hf
  case F_NONE => exact le_rfl
  case F_BR => exact le_line_length (sdecInt_length_pos _)
  case F_JT | F_COFUN => exact le_line_length (by simp [hex])
  case F_CT_MEM => exact le_line_length (by simp [cprd])
  all_goals exact le_line_length (gpr_length_pos _ _)

/-- R105: a row with a mnemonic of one or two characters has operands. -/
theorem three_le_row_width : ∀ r ∈ mipsI, 3 ≤ r.op.mnemonic.length + (if r.fmt = .F_NONE then 0 else 2) := by
  decide

/-- R105: a text has at least 3 characters. -/
theorem three_le_step_text_length {st t : State} (h : step st = .next t) : 3 ≤ t.decoded.text.length := by
  obtain ⟨r, hr, -, rfl⟩ | ⟨-, rfl⟩ := step_row_cases h
  · rw [State.drive_decoded_text]
    cases st.sample.decoded.nop
    · exact (three_le_row_width r hr).trans (le_text_length _ (fmt_ne_unk hr) _ _)
    · exact le_rfl
  · simp

/-- Settles O30: the bounds hold of every row, and the four words reach them. -/
theorem textLengths : Obligations.TextLengths := by
  refine ⟨fun st t h => ?_, ⟨_, everyStepDecodes _, by decide⟩, ⟨_, everyStepDecodes _, by decide⟩,
    ⟨_, everyStepDecodes _, by decide⟩, ⟨_, everyStepDecodes _, by decide⟩⟩
  have upper := step_text_length_le h
  refine ⟨three_le_step_text_length h, fun hn => ?_, fun hn => ?_⟩
  · rwa [hn] at upper
  · rwa [hn] at upper

end Sys2Proof.Machine


/-! PROOFS. The unknown set of 47_unknown.md: its outcome is distinct (R210), its text carries the word (R211), and its size
under the default table (R214), counted from the masks of the rows. -/

namespace Sys2Proof.Machine

/-! ## The unknown outcome is distinct and carries its word -/

/-- Settles O52: behind the ten characters of `unknown 0x` stand the eight digits of the word and nothing else. -/
theorem unknownCarriesWord : Obligations.UnknownCarriesWord := by
  intro st t h hk
  obtain ⟨r, -, -, rfl⟩ | ⟨-, rfl⟩ := step_row_cases h
  · cases hk
  · obtain ⟨hl, hr⟩ := hexNumerals.2 st.nextWord
    have digits : (("unknown 0x".toList ++ hex8 st.nextWord).drop 10).take 8 = hex8 st.nextWord :=
      List.take_of_length_le hl.le
    simp only [State.driveUnknown_decoded_text, State.sample_instr_i, digits, hr]

/-- No mnemonic of a row begins `unknown`, and none is begun by it. -/
theorem mnemonic_not_unknown : ∀ r ∈ mipsI,
    ¬ r.op.mnemonic <+: "unknown".toList ∧ ¬ "unknown".toList <+: r.op.mnemonic := by
  decide

/-- A row's text begins with its mnemonic, so it does not begin with `unknown`. -/
theorem row_text_not_unknown {r : Row} (hr : r ∈ mipsI) (nm : RegNaming) (w : Word) :
    ¬ "unknown".toList <+: (dispatchMux nm r.fmt r.op.mnemonic w).text := by
  obtain ⟨_, ops, h, -⟩ := dispatchMux_eq_line nm (fmt_ne_unk hr) r.op.mnemonic w
  obtain ⟨shorter, longer⟩ := mnemonic_not_unknown r hr
  rw [h]
  intro hu
  exact (List.prefix_or_prefix_of_prefix hu (mnemonic_begins_line r.op.mnemonic ops)).elim longer shorter

/-- R67: the op of a row is not `UNKNOWN`, and its code is not 0. -/
theorem op_of_row : ∀ r ∈ mipsI, r.op ≠ .UNKNOWN ∧ r.op.code ≠ 0#7 := by
  decide

/-- Settles O51: a row has its own op and a text that begins with its mnemonic, or is `nop`. -/
theorem unknownDistinct : Obligations.UnknownDistinct := by
  refine ⟨fun st t h => ?_, fun r hr e => ?_⟩
  · obtain ⟨r, hr, -, rfl⟩ | ⟨-, rfl⟩ := step_row_cases h
    · obtain ⟨hop, hcode⟩ := op_of_row r hr
      refine ⟨fun _ => ⟨hop, hcode, ?_⟩, fun hk => absurd hk (by simp [State.ports])⟩
      rw [State.drive_decoded_text]
      cases st.sample.decoded.nop
      · exact row_text_not_unknown hr st.regNaming st.nextWord
      · rw [muxText_true]
        decide
    · exact ⟨fun hk => absurd hk (by simp [State.ports]), fun _ => ⟨rfl, ⟨_, rfl⟩⟩⟩
  · exact (mnemonic_not_unknown r hr).1 (e ▸ List.prefix_rfl)

end Sys2Proof.Machine

namespace Sys2Proof

open Extract Machine

/-! ## The number of words of a row -/

/-- The words with given bits under a mask: every choice of the other bits gives one. -/
def freeBitsEquiv (mask bits : Word) (h : bits &&& mask = bits) :
    {w : Word // w &&& mask = bits} ≃ ({i : Fin 32 // mask[i] = false} → Bool) where
  toFun w i := w.1[i.1]
  invFun g := ⟨BitVec.ofFnLE fun i => if hi : mask[i] = false then g ⟨i, hi⟩ else bits[i], by
    ext i hi
    have hb : (bits[i] && mask[i]) = bits[i] := by rw [← BitVec.getElem_and]; simp only [h]
    cases hm : mask[i] <;> simp_all⟩
  left_inv := by
    rintro ⟨w, rfl⟩
    ext i hi
    cases hm : mask[i] <;> simp [hm]
  right_inv g := by
    funext ⟨i, hi⟩
    have hi' : mask[i.1] = false := hi
    simp [hi']

/-- The number of words that agree under a mask. -/
def wordsUnder (mask : Word) : Nat := 2 ^ ((List.finRange 32).filter fun i => mask[i] = false).length

theorem card_covered {mask bits : Word} (h : bits &&& mask = bits) :
    Nat.card {w : Word // w &&& mask = bits} = wordsUnder mask := by
  rw [Nat.card_congr (freeBitsEquiv mask bits h), Nat.card_fun, Nat.card_eq_fintype_card, Nat.card_eq_fintype_card,
    Fintype.card_bool, Fintype.card_subtype]
  rfl

/-! ## The number of words of a table -/

/-- The words of one kind or another, no word being of both. -/
theorem card_or {p q : Word → Prop} (h : ∀ w, p w → ¬ q w) :
    Nat.card {w // p w ∨ q w} = Nat.card {w // p w} + Nat.card {w // q w} := by
  classical
  have apart : Disjoint p q := Pi.disjoint_iff.2 fun w => disjoint_iff_inf_le.2 fun hw => h w hw.1 hw.2
  rw [Nat.card_congr (subtypeOrEquiv p q apart), Nat.card_sum]

/-- The rows of a table cover as many words as its rows do each, for they have none in common. -/
theorem card_recognises {T : List Row} (hm : ∀ r ∈ T, r.matchBits &&& r.mask = r.matchBits)
    (hT : pairwiseDisjoint T = true) :
    Nat.card {w // recognises T w = true} = (T.map fun r => wordsUnder r.mask).sum := by
  induction T with
  | nil => simp [recognises]
  | cons r T ih =>
    obtain ⟨hr, hrest⟩ := List.forall_mem_cons.1 hm
    simp only [pairwiseDisjoint, Bool.and_eq_true, List.all_eq_true] at hT
    obtain ⟨apart, disjoint⟩ := hT
    have split (w : Word) : recognises (r :: T) w = true ↔ w &&& r.mask = r.matchBits ∨ recognises T w = true := by
      simp [recognises, Row.covers]
    have unique (w : Word) (hc : w &&& r.mask = r.matchBits) : ¬ recognises T w = true := by
      intro hw
      obtain ⟨q, hq, hcq⟩ := List.any_eq_true.1 hw
      exact Row.not_both_covers (apart q hq) (beq_iff_eq.2 hc) hcq
    simp only [split, card_or unique, card_covered hr, ih hrest disjoint, List.map_cons, List.sum_cons]

theorem pairwiseDisjoint_iff (T : List Row) :
    pairwiseDisjoint T = true ↔ T.Pairwise fun a b => a.disjoint b = true := by
  induction T with
  | nil => simp [pairwiseDisjoint]
  | cons r T ih => simp [pairwiseDisjoint, ih]

theorem pairwiseDisjoint_filter {T : List Row} (hT : pairwiseDisjoint T = true) (p : Row → Bool) :
    pairwiseDisjoint (T.filter p) = true :=
  (pairwiseDisjoint_iff _).2 (((pairwiseDisjoint_iff T).1 hT).filter p)

/-! ## The words by `function` -/

/-- A word is its `function` and the other 26 bits. -/
def functionEquiv (p : BitVec 6 → Prop) : {w : Word // p (function w)} ≃ {f : BitVec 6 // p f} × BitVec 26 where
  toFun w := (⟨function w.1, w.2⟩, imm_jump w.1)
  invFun x := ⟨wordJ x.1.1 x.2, by simpa using x.1.2⟩
  left_inv w := Subtype.ext (word_ext_jump (by simp) (by simp))
  right_inv x := by simp

theorem card_function (p : BitVec 6 → Prop) :
    Nat.card {w : Word // p (function w)} = Nat.card {f : BitVec 6 // p f} * 2 ^ 26 := by
  rw [Nat.card_congr (functionEquiv p), Nat.card_prod, Nat.card_eq_of_equiv_fin BitVec.equivFin.toEquiv]

/-- The rows of the default table whose `function` is of a kind. -/
def rowsOfFunction (p : BitVec 6 → Prop) [DecidablePred p] : List Row := mipsI.filter fun r => p (function r.matchBits)

/-- A word is recognised by the rows of its own `function` only. -/
theorem recognises_rowsOfFunction (p : BitVec 6 → Prop) [DecidablePred p] (w : Word) :
    recognises (rowsOfFunction p) w = true ↔ recognises mipsI w = true ∧ p (function w) := by
  simp only [recognises, rowsOfFunction, List.any_eq_true, List.mem_filter, decide_eq_true_eq, Row.covers, beq_iff_eq]
  constructor
  · rintro ⟨r, ⟨hr, hp⟩, hc⟩
    exact ⟨⟨r, hr, hc⟩, function_of_covers hr hc ▸ hp⟩
  · rintro ⟨⟨r, hr, hc⟩, hp⟩
    exact ⟨r, ⟨hr, function_of_covers hr hc ▸ hp⟩, hc⟩

theorem card_recognised (p : BitVec 6 → Prop) [DecidablePred p] :
    Nat.card {w // recognises mipsI w = true ∧ p (function w)} =
      ((rowsOfFunction p).map fun r => wordsUnder r.mask).sum := by
  simp only [← recognises_rowsOfFunction p]
  exact card_recognises (fun r hr => match_and_mask (List.mem_of_mem_filter hr))
    (pairwiseDisjoint_filter mipsITable.conditions.2.1 _)

/-- R214: the unknown words are those that the rows leave, of the 2 ^ 26 words of each `function`. -/
theorem card_unknown (p : BitVec 6 → Prop) [DecidablePred p] :
    Nat.card {w // recognises mipsI w = false ∧ p (function w)} +
      ((rowsOfFunction p).map fun r => wordsUnder r.mask).sum = Fintype.card {f : BitVec 6 // p f} * 2 ^ 26 := by
  rw [← card_recognised p, ← Nat.card_eq_fintype_card, ← card_function p, ← card_or fun w hu hk => by simp_all]
  congr! 3 with w
  cases recognises mipsI w <;> simp

/-- The same as a number, by a count that evaluates. -/
theorem card_unknown_eq (p : BitVec 6 → Prop) [DecidablePred p] {n : Nat}
    (h : n + ((rowsOfFunction p).map fun r => wordsUnder r.mask).sum = Fintype.card {f : BitVec 6 // p f} * 2 ^ 26) :
    Nat.card {w // recognises mipsI w = false ∧ p (function w)} = n :=
  Nat.add_right_cancel ((card_unknown p).trans h.symm)

/-- The words of the 98 rows, family by family. -/
theorem sum_wordsUnder_mipsI : (mipsI.map fun r => wordsUnder r.mask).sum = 2454355968 := by
  simp only [mipsI, List.map_append, List.sum_append]
  decide

theorem rowsOfFunction_true : rowsOfFunction (fun _ => True) = mipsI := by
  simp [rowsOfFunction]

/-- Settles O53: each count is what the rows of its functions leave; the recognised words are counted by the rows. -/
theorem unknownCount : Obligations.UnknownCount := by
  refine ⟨?_, ?_, card_unknown_eq (fun f => f.toNat ∉ [0x00, 0x01, 0x10, 0x11, 0x12, 0x13]) ?_,
    card_unknown_eq (· = 0x00#6) ?_, card_unknown_eq (· = 0x01#6) ?_, card_unknown_eq (· = 0x10#6) ?_,
    card_unknown_eq (· = 0x11#6) ?_, card_unknown_eq (· = 0x12#6) ?_, card_unknown_eq (· = 0x13#6) ?_⟩
  · have all := card_unknown_eq (fun _ => True) (n := 1840611328)
      (by rw [rowsOfFunction_true, sum_wordsUnder_mipsI]; decide)
    simpa only [and_true] using all
  · rw [card_recognises (fun _ => match_and_mask) mipsITable.conditions.2.1, sum_wordsUnder_mipsI]
  all_goals decide

end Sys2Proof


/-! PROOFS. The tables that 30_encoding.md R46 admits: what the block shows of a word under any of them, each condition of
R46 read from the row that covers the word. -/

namespace Sys2Proof

open Extract Machine

/-! ## What the block shows under a table -/

section

variable (T : DecodeTable) (nm : RegNaming)

/-- A word that a row of the table covers shows the row. -/
theorem decodedOf_of_row {r : Row} (hr : r ∈ T.rows) {w : Word} (hc : w &&& r.mask = r.matchBits) :
    decodedOf T nm w =
      ⟨true, r.op, r.shape, r.fmt, copz w, nopFlag w, (dispatchMux nm r.fmt r.op.mnemonic w).operands,
        muxText (nopFlag w) (dispatchMux nm r.fmt r.op.mnemonic w).text⟩ := by
  rw [decodedOf, decodedOfRows_of_findRow (T.findRow_eq hr (beq_iff_eq.2 hc)), dispatchMux_fmt]

/-- R46 (c): the word 0 has a row, so `nop` is 0 for a word of no row. -/
theorem nopFlag_of_no_row {w : Word} (hn : ∀ r ∈ T.rows, w &&& r.mask ≠ r.matchBits) : nopFlag w = false := by
  obtain ⟨-, -, -, -, zero, -, -, -, -⟩ := T.conditions
  obtain ⟨r, hr, hc⟩ := List.any_eq_true.1 zero
  rw [nopFlag_eq_decide, decide_eq_false_iff_not]
  rintro rfl
  exact hn r hr (beq_iff_eq.1 hc)

/-- R46 (h): a word of no row gives the unknown outcome. -/
theorem decodedOf_of_no_row {w : Word} (hn : ∀ r ∈ T.rows, w &&& r.mask ≠ r.matchBits) :
    decodedOf T nm w = ⟨false, .UNKNOWN, .NONE, .F_UNK, copz w, false, [], "unknown 0x".toList ++ hex8 w⟩ := by
  rw [decodedOf, decodedOfRows_of_not_covers hn, nopFlag_of_no_row T hn, muxText_false]

theorem decodedOf_known (w : Word) : (decodedOf T nm w).known = recognises T.rows w := by
  rw [Bool.eq_iff_iff, decodedOf, decodedOfRows_known_iff]
  simp [recognises, Row.covers]

/-- A known word has a row. -/
theorem row_of_known {w : Word} (h : (decodedOf T nm w).known = true) :
    ∃ r ∈ T.rows, w &&& r.mask = r.matchBits :=
  (decodedOfRows_known_iff T.rows nm w).1 h

/-- Some row covers the word or none does. -/
theorem row_or_no_row (w : Word) :
    (∃ r ∈ T.rows, w &&& r.mask = r.matchBits) ∨ ∀ r ∈ T.rows, w &&& r.mask ≠ r.matchBits := by
  by_cases hc : ∃ r ∈ T.rows, w &&& r.mask = r.matchBits
  · exact .inl hc
  · push Not at hc
    exact .inr hc

/-- A word with the op of an instruction has a row of that op. -/
theorem row_of_op {w : Word} {ops : List Op} (hu : Op.UNKNOWN ∉ ops) (h : (decodedOf T nm w).op ∈ ops) :
    ∃ r ∈ T.rows, w &&& r.mask = r.matchBits ∧ r.op ∈ ops := by
  obtain ⟨r, hr, hc⟩ | hn := row_or_no_row T w
  · rw [decodedOf_of_row T nm hr hc] at h
    exact ⟨r, hr, hc, h⟩
  · rw [decodedOf_of_no_row T nm hn] at h
    exact absurd h hu

/-- The operands of a word with the op of an instruction are those of a renderer that the table gives this op. -/
theorem operands_of_op {w : Word} {ops : List Op} (hu : Op.UNKNOWN ∉ ops) (h : (decodedOf T nm w).op ∈ ops) :
    ∃ r ∈ T.rows, r.op ∈ ops ∧ (decodedOf T nm w).operands = (dispatchMux nm r.fmt r.op.mnemonic w).operands := by
  obtain ⟨r, hr, hc, ho⟩ := row_of_op T nm hu h
  exact ⟨r, hr, ho, by rw [decodedOf_of_row T nm hr hc]⟩

/-! ## The rows that R46 asks for -/

theorem function_of_row {r : Row} (hr : r ∈ T.rows) {w : Word} (hc : w &&& r.mask = r.matchBits) :
    function w = function r.matchBits :=
  Row.wellFormed_function (T.conditions.1 r hr) (beq_iff_eq.2 hc)

/-- R46 (a): under `function` = 0 a row covers the words of one `subfunction`. -/
theorem special_row_covers {r : Row} (hr : r ∈ T.rows) {v w : Word} (hv : function v = 0x00#6)
    (hw : function w = 0x00#6) (hs : subfunction v = subfunction w) (hc : v &&& r.mask = r.matchBits) :
    w &&& r.mask = r.matchBits := by
  obtain ⟨hm, -, -⟩ := T.special_row hr ((function_of_row T hr hc).symm.trans hv)
  rw [← hc, and_eq_and_iff, hm]
  simp [hv, hw, hs]

theorem decodedOf_congr_special {v w : Word} (hv : function v = 0x00#6) (hw : function w = 0x00#6)
    (hs : subfunction v = subfunction w) :
    (decodedOf T nm v).known = (decodedOf T nm w).known ∧ (decodedOf T nm v).op = (decodedOf T nm w).op ∧
      (decodedOf T nm v).shape = (decodedOf T nm w).shape ∧ (decodedOf T nm v).fmt = (decodedOf T nm w).fmt := by
  obtain ⟨r, hr, hc⟩ | hn := row_or_no_row T v
  · rw [decodedOf_of_row T nm hr hc, decodedOf_of_row T nm hr (special_row_covers T hr hv hw hs hc)]
    exact ⟨rfl, rfl, rfl, rfl⟩
  · rw [decodedOf_of_no_row T nm hn,
      decodedOf_of_no_row T nm fun r hr hc => hn r hr (special_row_covers T hr hw hv hs.symm hc)]
    exact ⟨rfl, rfl, rfl, rfl⟩

/-- R46 (b): a word of the add row. -/
theorem exists_add_word : ∃ w, function w = 0x00#6 ∧ (decodedOf T nm w).op = .add := by
  obtain ⟨wf, -, -, special, -, -, -, -, -⟩ := T.conditions
  simp only [Table.specialOperands, Bool.and_eq_true, List.any_eq_true, beq_iff_eq] at special
  obtain ⟨⟨r, hr, ho, hf⟩, -⟩ := special
  exact ⟨r.matchBits, hf, by rw [decodedOf_of_row T nm hr (Row.wellFormed_match (wf r hr)), ho]⟩

/-- R46 (d): one row covers the whole `function` 0x0F, and it shows `t` and the unsigned immediate. -/
theorem immediateLoad_row {w : Word} (hw : function w = 0x0F#6) :
    ∃ r ∈ T.rows, w &&& r.mask = r.matchBits ∧ (r.fmt = .F_T_IU ∨ r.fmt = .F_T_S_IU) := by
  obtain ⟨-, -, -, -, -, load, -, -, -⟩ := T.conditions
  simp only [Table.immediateLoad, List.any_eq_true, Bool.and_eq_true, Bool.or_eq_true, beq_iff_eq, Row.covers] at load
  obtain ⟨r, hr, ⟨hc, hm⟩, hf⟩ := load
  refine ⟨r, hr, ?_, hf⟩
  rw [← hc, and_eq_and_iff, hm]
  simp [hw]

/-- A coprocessor row does not cover the word 0, whose shape is R. -/
theorem nopFlag_of_cop_row {r : Row} (hr : r ∈ T.rows) {w : Word} (hc : w &&& r.mask = r.matchBits)
    (hs : r.shape = .COP) : nopFlag w = false := by
  rw [Row.wellFormed_shape (T.conditions.1 r hr), ← function_of_row T hr hc] at hs
  rw [nopFlag_eq_decide, decide_eq_false_iff_not]
  rintro rfl
  exact absurd hs (by decide)

/-- R46 (f): a jump shows `imm_jump`; the unknown outcome is no jump. -/
theorem operands_of_jump {w : Word} (h : (decodedOf T nm w).shape = .J ∨ (decodedOf T nm w).op ∈ [Op.j, .jal]) :
    (decodedOf T nm w).operands = [opJtarget (imm_jump w)] := by
  obtain ⟨r, hr, hc⟩ | hn := row_or_no_row T w
  · rw [decodedOf_of_row T nm hr hc] at h ⊢
    rw [T.jump_row hr h]
    rfl
  · rw [decodedOf_of_no_row T nm hn] at h
    simp at h

/-- R46 (g): a word of no row under `function` = 0, under a coprocessor `function`, and a `function` without words. -/
theorem exists_unknown_special : ∃ w, function w = 0x00#6 ∧ recognises T.rows w = false := by
  obtain ⟨-, -, -, -, -, -, -, -, invalid⟩ := T.conditions
  simp only [Table.invalidPatterns, Bool.and_eq_true, List.any_eq_true, List.mem_range, Bool.not_eq_true'] at invalid
  obtain ⟨⟨⟨sf, hsf, hn⟩, -⟩, -⟩ := invalid
  refine ⟨_, ?_, hn⟩
  rw [functionWord, function_ofNat]
  congr 1
  omega

theorem exists_unknown_coprocessor :
    ∃ w, (function w).toNat ∈ [0x10, 0x11, 0x12, 0x13] ∧ recognises T.rows w = false := by
  obtain ⟨-, -, -, -, -, -, -, -, invalid⟩ := T.conditions
  simp only [Table.invalidPatterns, Bool.and_eq_true, List.any_eq_true, List.mem_range, Bool.not_eq_true'] at invalid
  obtain ⟨⟨-, sf, hsf, t, ht, z, hz, co, hco, hn⟩, -⟩ := invalid
  refine ⟨_, ?_, hn⟩
  have low : function (BitVec.ofNat 32 (co * 2 ^ 21 + t * 2 ^ 16)) = 0#6 := by
    rw [function_ofNat]
    congr 1
    omega
  have high : function (functionWord (0x10 + z) sf) = BitVec.ofNat 6 (0x10 + z) := by
    rw [functionWord, function_ofNat]
    congr 1
    omega
  rw [function_or, high, low, BitVec.or_zero]
  interval_cases z <;> decide

theorem exists_unassigned_function :
    ∃ f : BitVec 6, ∀ w, function w = f → recognises T.rows w = false := by
  obtain ⟨-, -, -, -, -, -, -, -, invalid⟩ := T.conditions
  simp only [Table.invalidPatterns, Bool.and_eq_true, List.any_eq_true, List.all_eq_true, bne_iff_ne] at invalid
  obtain ⟨-, f, -, hf⟩ := invalid
  refine ⟨BitVec.ofNat 6 f, fun w hw => ?_⟩
  rw [recognises, List.any_eq_false]
  exact fun r hr hc => hf r hr ((function_of_row T hr (beq_iff_eq.1 hc)).symm.trans hw)

end

/-- Settles O58: each clause is what the row that covers the word has by the condition of R46 of the same letter. -/
theorem admissibleTableDecodes : Obligations.AdmissibleTableDecodes := by
  intro T nm
  refine ⟨fun v w => decodedOf_congr_special T nm, fun w hw hk => ?_, exists_add_word T nm, fun w => ⟨fun h => ?_,
    fun h => ?_, fun h => ?_, fun h => ?_, fun h => ?_⟩, ?_, fun w hw => ?_, fun w h => ?_, fun w r hr hc hs => ?_,
    fun w => operands_of_jump T nm, ?_, ?_, ?_, fun w => decodedOf_of_no_row T nm⟩
  -- (a)
  · obtain ⟨r, hr, hc⟩ := row_of_known T nm hk
    obtain ⟨-, shape, layout⟩ := T.special_row hr ((function_of_row T hr hc).symm.trans hw)
    rw [decodedOf_of_row T nm hr hc]
    exact ⟨shape, layout⟩
  -- (b)
  · obtain ⟨r, hr, ho, e⟩ := operands_of_op T nm (by decide) h
    obtain ⟨alu, -, -, -, -⟩ := T.operands_row hr
    rw [e, alu ho]
    rfl
  · obtain ⟨r, hr, ho, e⟩ := operands_of_op T nm (by decide) h
    obtain ⟨-, shift, -, -, -⟩ := T.operands_row hr
    rw [e, shift ho]
    rfl
  · obtain ⟨r, hr, ho, e⟩ := operands_of_op T nm (by decide) h
    obtain ⟨-, -, variableShift, -, -⟩ := T.operands_row hr
    rw [e]
    exact (variableShift ho).imp (fun hf => by rw [hf]; rfl) fun hf => by rw [hf]; rfl
  · obtain ⟨r, hr, ho, e⟩ := operands_of_op (ops := [.jr]) T nm (by decide) (List.mem_singleton.2 h)
    obtain ⟨-, -, -, jr, -⟩ := T.operands_row hr
    rw [e, jr (List.mem_singleton.1 ho)]
    rfl
  · obtain ⟨r, hr, ho, e⟩ := operands_of_op (ops := [.jalr]) T nm (by decide) (List.mem_singleton.2 h)
    obtain ⟨-, -, -, -, jalr⟩ := T.operands_row hr
    rw [e]
    exact (jalr (List.mem_singleton.1 ho)).imp (fun hf => by rw [hf]; rfl) fun hf => by rw [hf]; rfl
  -- (c)
  · obtain ⟨-, -, -, -, zero, -, -, -, -⟩ := T.conditions
    exact (decodedOf_known T nm _).trans zero
  -- (d)
  · obtain ⟨r, hr, hc, hf⟩ := immediateLoad_row T hw
    rw [decodedOf_of_row T nm hr hc]
    obtain hf | hf := hf <;> rw [hf] <;> simp [dispatchMux, renderTIu, renderTSIu, opGpr, opImmU]
  -- (e)
  · obtain ⟨r, hr, hc, ho⟩ := row_of_op T nm (by decide) h
    obtain ⟨hs, hf⟩ := T.move_row hr ho
    rw [decodedOf_of_row T nm hr hc, nopFlag_of_cop_row T hr hc hs, muxText_false]
    exact hf.imp (fun hf => by rw [hf]; exact ⟨rfl, line_two _ _ _⟩) fun hf => by rw [hf]; exact ⟨rfl, line_two _ _ _⟩
  · rw [decodedOf_of_row T nm hr hc]
    obtain (hf | hf) | ⟨ho, ⟨hm, hf⟩ | ⟨hm, hf⟩ | ⟨hm, hf⟩⟩ := T.coprocessor_row hr hs <;> rw [hf]
    · exact .inl rfl
    · exact .inr (.inl rfl)
    · exact .inr (.inr ⟨ho, .inl ⟨hm, rfl⟩⟩)
    · exact .inr (.inr ⟨ho, .inr (.inl ⟨hm, rfl⟩)⟩)
    · exact .inr (.inr ⟨ho, .inr (.inr ⟨hm, rfl⟩)⟩)
  -- (g)
  · simpa only [decodedOf_known] using exists_unknown_special T
  · simpa only [decodedOf_known] using exists_unknown_coprocessor T
  · simpa only [decodedOf_known] using exists_unassigned_function T

end Sys2Proof
